-- ==== Sys2Proof/Word.lean ====
section
/-! DEFINITION. The widths the spec names (00_scope R10, R12; 10_state R22, R37; 20_memory R61). -/

namespace Sys2Proof

/-- A byte of the message buffer or of the digest (R61, R38). -/
abbrev Byte := BitVec 8

/-- A 32-bit word: a command word (R90), a control register (R26), a word of the host bus (R64). -/
abbrev Word := BitVec 32

/-- A hash word `H[k]`, 64 bits for every variant (R37). -/
abbrev HashWord := BitVec 64

/-- A big-integer register, `BIGW = 512` bits, read as an unsigned integer (R10, R22). -/
abbrev Big := BitVec 512

/-- A register index: there are `NREG = 16` big registers (R10, R22). -/
abbrev Reg := Fin 16

end Sys2Proof
end

