-- ==== Sys2Proof/Machine/Bytes.lean ====
section
/-! DEFINITION. Byte sequences and integers in both byte orders (00_scope R14). -/

namespace Sys2Proof.Machine

/-- `be_n(v)`: the `n`-byte big-endian encoding, most significant byte first (R14). -/
def beBytes (n v : Nat) : List Byte :=
  (List.range n).map fun i => BitVec.ofNat 8 (v / 256 ^ (n - 1 - i))

/-- `le_n(v)`: the `n`-byte little-endian encoding, least significant byte first (R14). -/
def leBytes (n v : Nat) : List Byte :=
  (List.range n).map fun i => BitVec.ofNat 8 (v / 256 ^ i)

/-- `be_int(s)`: the integer of a big-endian byte sequence, 0 for the empty one (R14). -/
def beInt (s : List Byte) : Nat := s.foldl (fun n x => n * 256 + x.toNat) 0

/-- `le_int(s)`: the integer of a little-endian byte sequence, 0 for the empty one (R14). -/
def leInt (s : List Byte) : Nat := s.foldr (fun x n => x.toNat + 256 * n) 0

/-- `bitlen(k)`: 0 for 0, else the index of the most significant set bit plus one (R12). -/
def bitLength (k : Nat) : Nat := if k = 0 then 0 else Nat.log2 k + 1

end Sys2Proof.Machine
end

