-- ==== Sys2Proof/Config.lean ====
section
/-! DEFINITION. What is fixed for one machine: the OPEN parameter `MSG_CAP` (00_scope R10, 92 D4), the
constant tables `CFG.V20`, `CFG.V32`, `CFG.V64`, `CFG.W`, `CFG.E` with the values the rules print
(42_hash R161 to R166, 43_weierstrass R200, 44_edwards R230), and the free values of 93 U9 and U11. -/

namespace Sys2Proof

/-- The OPEN parameter of R10: `MSG_CAP` is any multiple of 128 that is at least 256 and below 2^31.
`capSteps` counts the 128-byte steps above 256, so every value of this type is a legal capacity and
every legal capacity has one.  The machine carries it as a field of State that no step changes, so a
statement over all states holds for every legal `MSG_CAP` (log entry 1). -/
structure Config where
  capSteps : Fin 16777214
  deriving DecidableEq, Repr

/-- `MSG_CAP` in bytes (R10, R34). -/
def Config.msgCap (c : Config) : Nat := 256 + 128 * c.capSteps.val

/-- The default of R10: `MSG_CAP = 4096`. -/
def Config.standard : Config := ⟨30⟩

/-- `CFG.V20`: initial value and the four round constants, one for each group of 20 rounds (R161, R162). -/
structure Sha1Tables where
  iv : List Word
  k : List Word
  deriving DecidableEq, Repr

/-- `CFG.V32` and `CFG.V64`: initial value, round constants and the rotation (and shift) amounts of the
four sigma functions for word width `w` (R163 to R166).  The last entry of `ssig0` and `ssig1` is a
shift, every other entry a rotation. -/
structure Sha2Tables (w : Nat) where
  iv : List (BitVec w)
  k : List (BitVec w)
  bsig0 : Nat × Nat × Nat
  bsig1 : Nat × Nat × Nat
  ssig0 : Nat × Nat × Nat
  ssig1 : Nat × Nat × Nat
  deriving DecidableEq, Repr

/-- `CFG.W` and `CFG.E`: field prime, group order, generator and the one coefficient that is not built
into the formulas (`curveB` of the Weierstrass curve, `d` of the Edwards curve) (R200, R230). -/
structure Curve where
  prime : Nat
  order : Nat
  gx : Nat
  gy : Nat
  coeff : Nat
  deriving DecidableEq, Repr

/-- `CFG.V20` (R161, R162). -/
def Config.v20 : Sha1Tables where
  iv := [0x67452301, 0xEFCDAB89, 0x98BADCFE, 0x10325476, 0xC3D2E1F0]
  k := [0x5A827999, 0x6ED9EBA1, 0x8F1BBCDC, 0xCA62C1D6]

/-- `K32[0..63]` (R164). -/
def Config.k32 : List Word :=
  [0x428A2F98, 0x71374491, 0xB5C0FBCF, 0xE9B5DBA5, 0x3956C25B, 0x59F111F1, 0x923F82A4, 0xAB1C5ED5,
   0xD807AA98, 0x12835B01, 0x243185BE, 0x550C7DC3, 0x72BE5D74, 0x80DEB1FE, 0x9BDC06A7, 0xC19BF174] ++
  [0xE49B69C1, 0xEFBE4786, 0x0FC19DC6, 0x240CA1CC, 0x2DE92C6F, 0x4A7484AA, 0x5CB0A9DC, 0x76F988DA,
   0x983E5152, 0xA831C66D, 0xB00327C8, 0xBF597FC7, 0xC6E00BF3, 0xD5A79147, 0x06CA6351, 0x14292967] ++
  [0x27B70A85, 0x2E1B2138, 0x4D2C6DFC, 0x53380D13, 0x650A7354, 0x766A0ABB, 0x81C2C92E, 0x92722C85,
   0xA2BFE8A1, 0xA81A664B, 0xC24B8B70, 0xC76C51A3, 0xD192E819, 0xD6990624, 0xF40E3585, 0x106AA070] ++
  [0x19A4C116, 0x1E376C08, 0x2748774C, 0x34B0BCB5, 0x391C0CB3, 0x4ED8AA4A, 0x5B9CCA4F, 0x682E6FF3,
   0x748F82EE, 0x78A5636F, 0x84C87814, 0x8CC70208, 0x90BEFFFA, 0xA4506CEB, 0xBEF9A3F7, 0xC67178F2]

/-- `CFG.V32` (R163, R164). -/
def Config.v32 : Sha2Tables 32 where
  iv := [0x6A09E667, 0xBB67AE85, 0x3C6EF372, 0xA54FF53A, 0x510E527F, 0x9B05688C, 0x1F83D9AB, 0x5BE0CD19]
  k := Config.k32
  bsig0 := (2, 13, 22)
  bsig1 := (6, 11, 25)
  ssig0 := (7, 18, 3)
  ssig1 := (17, 19, 10)

/-- `K64[0..79]` (R166). -/
def Config.k64 : List HashWord :=
  [0x428A2F98D728AE22, 0x7137449123EF65CD, 0xB5C0FBCFEC4D3B2F, 0xE9B5DBA58189DBBC,
   0x3956C25BF348B538, 0x59F111F1B605D019, 0x923F82A4AF194F9B, 0xAB1C5ED5DA6D8118,
   0xD807AA98A3030242, 0x12835B0145706FBE, 0x243185BE4EE4B28C, 0x550C7DC3D5FFB4E2,
   0x72BE5D74F27B896F, 0x80DEB1FE3B1696B1, 0x9BDC06A725C71235, 0xC19BF174CF692694] ++
  [0xE49B69C19EF14AD2, 0xEFBE4786384F25E3, 0x0FC19DC68B8CD5B5, 0x240CA1CC77AC9C65,
   0x2DE92C6F592B0275, 0x4A7484AA6EA6E483, 0x5CB0A9DCBD41FBD4, 0x76F988DA831153B5,
   0x983E5152EE66DFAB, 0xA831C66D2DB43210, 0xB00327C898FB213F, 0xBF597FC7BEEF0EE4,
   0xC6E00BF33DA88FC2, 0xD5A79147930AA725, 0x06CA6351E003826F, 0x142929670A0E6E70] ++
  [0x27B70A8546D22FFC, 0x2E1B21385C26C926, 0x4D2C6DFC5AC42AED, 0x53380D139D95B3DF,
   0x650A73548BAF63DE, 0x766A0ABB3C77B2A8, 0x81C2C92E47EDAEE6, 0x92722C851482353B,
   0xA2BFE8A14CF10364, 0xA81A664BBC423001, 0xC24B8B70D0F89791, 0xC76C51A30654BE30,
   0xD192E819D6EF5218, 0xD69906245565A910, 0xF40E35855771202A, 0x106AA07032BBD1B8] ++
  [0x19A4C116B8D2D0C8, 0x1E376C085141AB53, 0x2748774CDF8EEB99, 0x34B0BCB5E19B48A8,
   0x391C0CB3C5C95A63, 0x4ED8AA4AE3418ACB, 0x5B9CCA4F7763E373, 0x682E6FF3D6B2B8A3,
   0x748F82EE5DEFB2FC, 0x78A5636F43172F60, 0x84C87814A1F0AB72, 0x8CC702081A6439EC,
   0x90BEFFFA23631E28, 0xA4506CEBDE82BDE9, 0xBEF9A3F7B2C67915, 0xC67178F2E372532B] ++
  [0xCA273ECEEA26619C, 0xD186B8C721C0C207, 0xEADA7DD6CDE0EB1E, 0xF57D4F7FEE6ED178,
   0x06F067AA72176FBA, 0x0A637DC5A2C898A6, 0x113F9804BEF90DAE, 0x1B710B35131C471B,
   0x28DB77F523047D84, 0x32CAAB7B40C72493, 0x3C9EBE0A15C9BEBC, 0x431D67C49C100D4C,
   0x4CC5D4BECB3E42B6, 0x597F299CFC657E2A, 0x5FCB6FAB3AD6FAEC, 0x6C44198C4A475817]

/-- `CFG.V64` (R165, R166). -/
def Config.v64 : Sha2Tables 64 where
  iv :=
    [0x6A09E667F3BCC908, 0xBB67AE8584CAA73B, 0x3C6EF372FE94F82B, 0xA54FF53A5F1D36F1,
     0x510E527FADE682D1, 0x9B05688C2B3E6C1F, 0x1F83D9ABFB41BD6B, 0x5BE0CD19137E2179]
  k := Config.k64
  bsig0 := (28, 34, 39)
  bsig1 := (14, 18, 41)
  ssig0 := (1, 8, 7)
  ssig1 := (19, 61, 6)

/-- `CFG.W`: `WP`, `WN`, `WGX`, `WGY`, `WB` (R200). -/
def Config.w : Curve where
  prime := 0xFFFFFFFFFFFFFFFFFFFFFFFFFFFFFFFFFFFFFFFFFFFFFFFFFFFFFFFEFFFFFC2F
  order := 0xFFFFFFFFFFFFFFFFFFFFFFFFFFFFFFFEBAAEDCE6AF48A03BBFD25E8CD0364141
  gx := 0x79BE667EF9DCBBAC55A06295CE870B07029BFCDB2DCE28D959F2815B16F81798
  gy := 0x483ADA7726A3C4655DA4FBFC0E1108A8FD17B448A68554199C47D08FFB10D4B8
  coeff := 0x0000000000000000000000000000000000000000000000000000000000000007

/-- `CFG.E`: `EP`, `EL`, `EGX`, `EGY`, `ED` (R230). -/
def Config.e : Curve where
  prime := 0x7FFFFFFFFFFFFFFFFFFFFFFFFFFFFFFFFFFFFFFFFFFFFFFFFFFFFFFFFFFFFFED
  order := 0x1000000000000000000000000000000014DEF9DEA2F79CD65812631A5CF5D3ED
  gx := 0x216936D3CD6E53FEC0A4E231FDD6DC5C692CC7609525A7B2C9562D608F25D51A
  gy := 0x6666666666666666666666666666666666666666666666666666666666666658
  coeff := 0x52036CEE2B6FFE738CC740797779E89800700A4D4141D8AB75EB4DCA135978A3

/-- FREE VALUE (log entry 2): the content of big register `i` after the reset that made draw `n` (R41, U9). -/
opaque Config.freeBig : (n i : Nat) → Big

/-- FREE VALUE (log entry 2): the content of hash word `k` after the reset that made draw `n` (R41, U9). -/
opaque Config.freeHashWord : (n k : Nat) → HashWord

/-- FREE VALUE (log entry 2): the content of digest byte `k` after the reset that made draw `n` (R41, U9). -/
opaque Config.freeDigestByte : (n k : Nat) → Byte

/-- FREE VALUE (log entry 2): the content of message byte `a` after the reset that made draw `n` (R41, U9). -/
opaque Config.freeMessageByte : (n a : Nat) → Byte

/-- FREE VALUE (log entry 3): the word a host read of MLEN, PLEN, BLK, B, H, DG or MB returns while
BUSY, at draw `n` (R317, U11). -/
opaque Config.freeReadWord : (n : Nat) → Word

end Sys2Proof
end

