-- ==== Sys2Proof/Syntax.lean ====
section
/-! DEFINITION. The 18 commands of 30_encoding R96 as an abstract syntax, with the two immediates of
R94 that are names: the digest variant and the constant index. -/

namespace Sys2Proof

/-- The three digest variants (42_hash R160). The number 3 names none (R101). -/
inductive Variant where
  /-- number 0: 20-byte digest. -/
  | v20
  /-- number 1: 32-byte digest. -/
  | v32
  /-- number 2: 64-byte digest. -/
  | v64
  deriving DecidableEq, Repr

/-- The ten entries of the constant ROM (20_memory R62). -/
inductive ConstName where
  | wp | wn | wgx | wgy | wb
  | ep | el | egx | egy | ed
  deriving DecidableEq, Repr

/-- One constructor for each row of spec/opcode_table.json (30_encoding R96).  Register operands are
named as the fields of R91: `rd` the destination, `ra` and `rb` the sources, `rm` the modulus. -/
inductive Instr where
  /-- NOP (R120). -/
  | nop
  /-- LDC Bd, NAME (R121). -/
  | ldc (rd : Reg) (c : ConstName)
  /-- REDUCE and, with `signed`, REDUCE.S (R134). -/
  | reduce (rd ra rm : Reg) (signed : Bool)
  /-- INVERT Bd, Ba, Bm (R135). -/
  | invert (rd ra rm : Reg)
  /-- MODEXP Bd, Ba, Bb, Bm: base `ra`, exponent `rb` (R136). -/
  | modexp (rd ra rb rm : Reg)
  /-- MODADD Bd, Ba, Bb, Bm (R137). -/
  | modadd (rd ra rb rm : Reg)
  /-- MODSUB Bd, Ba, Bb, Bm: `ra` minus `rb` (R138). -/
  | modsub (rd ra rb rm : Reg)
  /-- MODMUL Bd, Ba, Bb, Bm (R139). -/
  | modmul (rd ra rb rm : Reg)
  /-- H_INIT V (R170). -/
  | hInit (v : Variant)
  /-- H_PAD (R171). -/
  | hPad
  /-- H_COMPRESS (R173). -/
  | hCompress
  /-- H_FINAL (R176). -/
  | hFinal
  /-- H_DIGEST V (R177). -/
  | hDigest (v : Variant)
  /-- W_ADD Bd, Ba, Bb, three pairs (R204). -/
  | wAdd (rd ra rb : Reg)
  /-- W_DBL Bd, Ba, two pairs (R205). -/
  | wDbl (rd ra : Reg)
  /-- W_MUL Bd, Ba, Bb: pairs `rd` and `ra`, scalar register `rb` (R206). -/
  | wMul (rd ra rb : Reg)
  /-- E_ADD Bd, Ba, Bb, three pairs (R234). -/
  | eAdd (rd ra rb : Reg)
  /-- E_MUL Bd, Ba, Bb: pairs `rd` and `ra`, scalar register `rb` (R235). -/
  | eMul (rd ra rb : Reg)
  deriving DecidableEq, Repr

end Sys2Proof
end

