-- ==== Sys2Proof/WellFormed.lean ====
section
/-! DEFINITION. Which terms of Instr are commands: the pair bound of 30_encoding R100 (10_state R23).
Every other restriction of R98 and R101 is already in the types of the operands. -/

namespace Sys2Proof

/-- A register index may stand in a pair position only if `B[i+1]` exists (R100, R23). -/
def Reg.isPair (i : Reg) : Bool := decide (i.val ≤ 14)

/-- The pair bound of formats P2, P3 and PS (R92, R100).  In format PS the scalar `rb` names a single
register and may be 15. -/
def Instr.wf : Instr → Bool
  | .nop => true
  | .ldc _ _ => true
  | .reduce _ _ _ _ => true
  | .invert _ _ _ => true
  | .modexp _ _ _ _ => true
  | .modadd _ _ _ _ => true
  | .modsub _ _ _ _ => true
  | .modmul _ _ _ _ => true
  | .hInit _ => true
  | .hPad => true
  | .hCompress => true
  | .hFinal => true
  | .hDigest _ => true
  | .wAdd rd ra rb => Reg.isPair rd && Reg.isPair ra && Reg.isPair rb
  | .wDbl rd ra => Reg.isPair rd && Reg.isPair ra
  | .wMul rd ra _ => Reg.isPair rd && Reg.isPair ra
  | .eAdd rd ra rb => Reg.isPair rd && Reg.isPair ra && Reg.isPair rb
  | .eMul rd ra _ => Reg.isPair rd && Reg.isPair ra

end Sys2Proof
end

