-- ==== Sys2Proof/Decode.lean ====
section
/-! DEFINITION. Decoding a command word (30_encoding R91 to R102), the encoder written from the same
tables, the opcode map of R96 as a list of rows, the assembler text of R103 and the pseudo-commands
of R104 that are commands. -/

namespace Sys2Proof

/-- The slice `w[hi:lo]` as an unsigned number (00_scope R12). -/
def bits (w : Word) (hi lo : Nat) : Nat := w.toNat / 2 ^ lo % 2 ^ (hi + 1 - lo)

/-- Field `op`, bits [31:24] (R91). -/
def fieldOp (w : Word) : Nat := bits w 31 24
/-- Field `rd`, bits [23:20] (R91). -/
def fieldRd (w : Word) : Reg := Fin.ofNat 16 (bits w 23 20)
/-- Field `ra`, bits [19:16] (R91). -/
def fieldRa (w : Word) : Reg := Fin.ofNat 16 (bits w 19 16)
/-- Field `rb`, bits [15:12] (R91). -/
def fieldRb (w : Word) : Reg := Fin.ofNat 16 (bits w 15 12)
/-- Field `rm`, bits [11:8] (R91). -/
def fieldRm (w : Word) : Reg := Fin.ofNat 16 (bits w 11 8)
/-- Field `fn`, bits [7:0] (R91). -/
def fieldFn (w : Word) : Nat := bits w 7 0

/-- Why a word is no command.  Each of these is the one error E_ILLEGAL when the word is executed
(R95, R99; 60_exceptions R283). -/
inductive Reject where
  /-- `op` is not in the table of R96 (R99). -/
  | unassignedOpcode
  /-- a must-be-zero field or bit is not zero (R98). -/
  | reservedBits
  /-- a pair position holds 15 (R100). -/
  | pairIndex
  /-- variant number 3 (R101). -/
  | variantNumber
  /-- a constant index that is not in the ROM (R101, 20_memory R62). -/
  | constantIndex
  deriving DecidableEq, Repr

/-- The number of a variant (R94, 42_hash R160). -/
def Variant.number : Variant → Nat
  | .v20 => 0
  | .v32 => 1
  | .v64 => 2

/-- The variant with a number, if there is one (R94, R101). -/
def Variant.ofNumber (n : Nat) : Option Variant :=
  if n = 0 then some .v20
  else if n = 1 then some .v32
  else if n = 2 then some .v64
  else none

/-- The index of a ROM constant (20_memory R62). -/
def ConstName.index : ConstName → Nat
  | .wp => 0x00
  | .wn => 0x01
  | .wgx => 0x02
  | .wgy => 0x03
  | .wb => 0x04
  | .ep => 0x10
  | .el => 0x11
  | .egx => 0x12
  | .egy => 0x13
  | .ed => 0x14

/-- The ROM constant with an index, if the index exists (20_memory R62). -/
def ConstName.ofIndex (n : Nat) : Option ConstName :=
  if n = 0x00 then some .wp
  else if n = 0x01 then some .wn
  else if n = 0x02 then some .wgx
  else if n = 0x03 then some .wgy
  else if n = 0x04 then some .wb
  else if n = 0x10 then some .ep
  else if n = 0x11 then some .el
  else if n = 0x12 then some .egx
  else if n = 0x13 then some .egy
  else if n = 0x14 then some .ed
  else none

/-- Format N: bits [23:0] must be zero (R92). -/
def decodeN (w : Word) (i : Instr) : Except Reject Instr :=
  if bits w 23 0 = 0 then .ok i else .error .reservedBits

/-- Format V: `fn[1:0]` is the variant, bits [23:2] must be zero (R92, R94, R101). -/
def decodeV (w : Word) (f : Variant → Instr) : Except Reject Instr :=
  if bits w 23 2 = 0 then
    match Variant.ofNumber (bits w 1 0) with
    | some v => .ok (f v)
    | none => .error .variantNumber
  else .error .reservedBits

/-- Format C: `rd` and the constant index `fn`; `ra`, `rb`, `rm` must be zero (R92, R94, R101). -/
def decodeC (w : Word) (f : Reg → ConstName → Instr) : Except Reject Instr :=
  if bits w 19 8 = 0 then
    match ConstName.ofIndex (fieldFn w) with
    | some c => .ok (f (fieldRd w) c)
    | none => .error .constantIndex
  else .error .reservedBits

/-- Format R3: `rd`, `ra`, `rm`; `rb` and `fn` must be zero (R92). -/
def decodeR3 (w : Word) (f : Reg → Reg → Reg → Instr) : Except Reject Instr :=
  if bits w 15 12 = 0 ∧ bits w 7 0 = 0 then .ok (f (fieldRd w) (fieldRa w) (fieldRm w))
  else .error .reservedBits

/-- Format R3S: `rd`, `ra`, `rm` and the bit `S = fn[0]`; `rb` and `fn[7:1]` must be zero (R92, R94). -/
def decodeR3S (w : Word) (f : Reg → Reg → Reg → Bool → Instr) : Except Reject Instr :=
  if bits w 15 12 = 0 ∧ bits w 7 1 = 0 then
    .ok (f (fieldRd w) (fieldRa w) (fieldRm w) (decide (bits w 0 0 = 1)))
  else .error .reservedBits

/-- Format R4: `rd`, `ra`, `rb`, `rm`; `fn` must be zero (R92). -/
def decodeR4 (w : Word) (f : Reg → Reg → Reg → Reg → Instr) : Except Reject Instr :=
  if bits w 7 0 = 0 then .ok (f (fieldRd w) (fieldRa w) (fieldRb w) (fieldRm w))
  else .error .reservedBits

/-- The pair bound of R100, applied to a command whose fields have been read. -/
def checkPairs (i : Instr) : Except Reject Instr :=
  if i.wf then .ok i else .error .pairIndex

/-- Format P2: pairs `rd` and `ra`; `rb`, `rm`, `fn` must be zero (R92, R100). -/
def decodeP2 (w : Word) (f : Reg → Reg → Instr) : Except Reject Instr :=
  if bits w 15 0 = 0 then checkPairs (f (fieldRd w) (fieldRa w)) else .error .reservedBits

/-- Formats P3 and PS: pairs `rd`, `ra` and the pair or scalar `rb`; `rm` and `fn` must be zero (R92, R100).
The two differ only in whether `rb` is bounded, which `Instr.wf` says. -/
def decodeP3 (w : Word) (f : Reg → Reg → Reg → Instr) : Except Reject Instr :=
  if bits w 11 0 = 0 then checkPairs (f (fieldRd w) (fieldRa w) (fieldRb w)) else .error .reservedBits

/-- The decoder: a total function of the word alone (R95), in the order of R95: opcode, must-be-zero
fields, pair bound, immediate. -/
def decode (w : Word) : Except Reject Instr :=
  if fieldOp w = 0x00 then decodeN w .nop
  else if fieldOp w = 0x01 then decodeC w .ldc
  else if fieldOp w = 0x10 then decodeR3S w .reduce
  else if fieldOp w = 0x11 then decodeR3 w .invert
  else if fieldOp w = 0x12 then decodeR4 w .modexp
  else if fieldOp w = 0x13 then decodeR4 w .modadd
  else if fieldOp w = 0x14 then decodeR4 w .modsub
  else if fieldOp w = 0x15 then decodeR4 w .modmul
  else if fieldOp w = 0x20 then decodeV w .hInit
  else if fieldOp w = 0x21 then decodeN w .hPad
  else if fieldOp w = 0x22 then decodeN w .hCompress
  else if fieldOp w = 0x23 then decodeN w .hFinal
  else if fieldOp w = 0x24 then decodeV w .hDigest
  else if fieldOp w = 0x30 then decodeP3 w .wAdd
  else if fieldOp w = 0x31 then decodeP2 w .wDbl
  else if fieldOp w = 0x32 then decodeP3 w .wMul
  else if fieldOp w = 0x40 then decodeP3 w .eAdd
  else if fieldOp w = 0x42 then decodeP3 w .eMul
  else .error .unassignedOpcode

/-- The opcode of a command (R96). -/
def Instr.opcode : Instr → Nat
  | .nop => 0x00
  | .ldc _ _ => 0x01
  | .reduce _ _ _ _ => 0x10
  | .invert _ _ _ => 0x11
  | .modexp _ _ _ _ => 0x12
  | .modadd _ _ _ _ => 0x13
  | .modsub _ _ _ _ => 0x14
  | .modmul _ _ _ _ => 0x15
  | .hInit _ => 0x20
  | .hPad => 0x21
  | .hCompress => 0x22
  | .hFinal => 0x23
  | .hDigest _ => 0x24
  | .wAdd _ _ _ => 0x30
  | .wDbl _ _ => 0x31
  | .wMul _ _ _ => 0x32
  | .eAdd _ _ _ => 0x40
  | .eMul _ _ _ => 0x42

/-- The word with the six fields of R91: `op*2^24 + rd*2^20 + ra*2^16 + rb*2^12 + rm*2^8 + fn`. -/
def packWord (op : Nat) (rd ra rb rm : Reg) (fn : Nat) : Word :=
  BitVec.ofNat 32
    (op * 2 ^ 24 + rd.val * 2 ^ 20 + ra.val * 2 ^ 16 + rb.val * 2 ^ 12 + rm.val * 2 ^ 8 + fn)

/-- The encoder: the word of a command, unused fields zero (R92, R98, R103). -/
def encode (i : Instr) : Word :=
  match i with
  | .nop => packWord i.opcode 0 0 0 0 0
  | .ldc rd c => packWord i.opcode rd 0 0 0 c.index
  | .reduce rd ra rm signed => packWord i.opcode rd ra 0 rm signed.toNat
  | .invert rd ra rm => packWord i.opcode rd ra 0 rm 0
  | .modexp rd ra rb rm => packWord i.opcode rd ra rb rm 0
  | .modadd rd ra rb rm => packWord i.opcode rd ra rb rm 0
  | .modsub rd ra rb rm => packWord i.opcode rd ra rb rm 0
  | .modmul rd ra rb rm => packWord i.opcode rd ra rb rm 0
  | .hInit v => packWord i.opcode 0 0 0 0 v.number
  | .hPad => packWord i.opcode 0 0 0 0 0
  | .hCompress => packWord i.opcode 0 0 0 0 0
  | .hFinal => packWord i.opcode 0 0 0 0 0
  | .hDigest v => packWord i.opcode 0 0 0 0 v.number
  | .wAdd rd ra rb => packWord i.opcode rd ra rb 0 0
  | .wDbl rd ra => packWord i.opcode rd ra 0 0 0
  | .wMul rd ra rb => packWord i.opcode rd ra rb 0 0
  | .eAdd rd ra rb => packWord i.opcode rd ra rb 0 0
  | .eMul rd ra rb => packWord i.opcode rd ra rb 0 0

/-- The "also" column of R96. -/
inductive Also where
  /-- no further condition. -/
  | nothing
  /-- `fn` is the index of a ROM constant. -/
  | constantIndex
  /-- `fn[1:0] != 3`. -/
  | variantNumber
  /-- `rd, ra, rb <= 14`. -/
  | pairsRdRaRb
  /-- `rd, ra <= 14`. -/
  | pairsRdRa
  deriving DecidableEq, Repr

/-- Whether a word meets an "also" condition of R96. -/
def Also.holds (a : Also) (w : Word) : Bool :=
  match a with
  | .nothing => true
  | .constantIndex => decide (fieldFn w ∈ [0x00, 0x01, 0x02, 0x03, 0x04, 0x10, 0x11, 0x12, 0x13, 0x14])
  | .variantNumber => decide (bits w 1 0 ≠ 3)
  | .pairsRdRaRb => decide (bits w 23 20 ≤ 14 ∧ bits w 19 16 ≤ 14 ∧ bits w 15 12 ≤ 14)
  | .pairsRdRa => decide (bits w 23 20 ≤ 14 ∧ bits w 19 16 ≤ 14)

/-- One row of the opcode map of R96. -/
structure OpcodeRow where
  mnemonic : String
  pattern : Word
  mask : Word
  also : Also
  deriving DecidableEq, Repr

/-- A word can be the row's command: `w AND mask = match` and the "also" condition holds (R96). -/
def OpcodeRow.accepts (r : OpcodeRow) (w : Word) : Bool :=
  decide (w &&& r.mask = r.pattern) && r.also.holds w

/-- The opcode map (R96). The decoder above does not use it: that the two agree is a statement. -/
def opcodeMap : List OpcodeRow :=
  [⟨"NOP", 0x00000000, 0xFFFFFFFF, .nothing⟩,
   ⟨"LDC", 0x01000000, 0xFF0FFF00, .constantIndex⟩,
   ⟨"REDUCE", 0x10000000, 0xFF00F0FE, .nothing⟩,
   ⟨"INVERT", 0x11000000, 0xFF00F0FF, .nothing⟩,
   ⟨"MODEXP", 0x12000000, 0xFF0000FF, .nothing⟩,
   ⟨"MODADD", 0x13000000, 0xFF0000FF, .nothing⟩,
   ⟨"MODSUB", 0x14000000, 0xFF0000FF, .nothing⟩,
   ⟨"MODMUL", 0x15000000, 0xFF0000FF, .nothing⟩,
   ⟨"H_INIT", 0x20000000, 0xFFFFFFFC, .variantNumber⟩,
   ⟨"H_PAD", 0x21000000, 0xFFFFFFFF, .nothing⟩,
   ⟨"H_COMPRESS", 0x22000000, 0xFFFFFFFF, .nothing⟩,
   ⟨"H_FINAL", 0x23000000, 0xFFFFFFFF, .nothing⟩,
   ⟨"H_DIGEST", 0x24000000, 0xFFFFFFFC, .variantNumber⟩,
   ⟨"W_ADD", 0x30000000, 0xFF000FFF, .pairsRdRaRb⟩,
   ⟨"W_DBL", 0x31000000, 0xFF00FFFF, .pairsRdRa⟩,
   ⟨"W_MUL", 0x32000000, 0xFF000FFF, .pairsRdRa⟩,
   ⟨"E_ADD", 0x40000000, 0xFF000FFF, .pairsRdRaRb⟩,
   ⟨"E_MUL", 0x42000000, 0xFF000FFF, .pairsRdRa⟩]

/-- The row of a command, by its mnemonic (R96). -/
def Instr.mnemonic : Instr → String
  | .nop => "NOP"
  | .ldc _ _ => "LDC"
  | .reduce _ _ _ _ => "REDUCE"
  | .invert _ _ _ => "INVERT"
  | .modexp _ _ _ _ => "MODEXP"
  | .modadd _ _ _ _ => "MODADD"
  | .modsub _ _ _ _ => "MODSUB"
  | .modmul _ _ _ _ => "MODMUL"
  | .hInit _ => "H_INIT"
  | .hPad => "H_PAD"
  | .hCompress => "H_COMPRESS"
  | .hFinal => "H_FINAL"
  | .hDigest _ => "H_DIGEST"
  | .wAdd _ _ _ => "W_ADD"
  | .wDbl _ _ => "W_DBL"
  | .wMul _ _ _ => "W_MUL"
  | .eAdd _ _ _ => "E_ADD"
  | .eMul _ _ _ => "E_MUL"

/-- A register in assembler text: `B0` to `B15` (R103). -/
def Reg.asm (i : Reg) : String := "B" ++ toString i.val

/-- A variant in assembler text (R103). -/
def Variant.asm : Variant → String
  | .v20 => "V20"
  | .v32 => "V32"
  | .v64 => "V64"

/-- A ROM constant in assembler text (R103, 20_memory R62). -/
def ConstName.asm : ConstName → String
  | .wp => "WP"
  | .wn => "WN"
  | .wgx => "WGX"
  | .wgy => "WGY"
  | .wb => "WB"
  | .ep => "EP"
  | .el => "EL"
  | .egx => "EGX"
  | .egy => "EGY"
  | .ed => "ED"

/-- The operands of a command in the order of R103: destination, sources, modulus. -/
def Instr.asmOperands : Instr → List String
  | .nop => []
  | .ldc rd c => [Reg.asm rd, c.asm]
  | .reduce rd ra rm _ => [Reg.asm rd, Reg.asm ra, Reg.asm rm]
  | .invert rd ra rm => [Reg.asm rd, Reg.asm ra, Reg.asm rm]
  | .modexp rd ra rb rm => [Reg.asm rd, Reg.asm ra, Reg.asm rb, Reg.asm rm]
  | .modadd rd ra rb rm => [Reg.asm rd, Reg.asm ra, Reg.asm rb, Reg.asm rm]
  | .modsub rd ra rb rm => [Reg.asm rd, Reg.asm ra, Reg.asm rb, Reg.asm rm]
  | .modmul rd ra rb rm => [Reg.asm rd, Reg.asm ra, Reg.asm rb, Reg.asm rm]
  | .hInit v => [v.asm]
  | .hPad => []
  | .hCompress => []
  | .hFinal => []
  | .hDigest v => [v.asm]
  | .wAdd rd ra rb => [Reg.asm rd, Reg.asm ra, Reg.asm rb]
  | .wDbl rd ra => [Reg.asm rd, Reg.asm ra]
  | .wMul rd ra rb => [Reg.asm rd, Reg.asm ra, Reg.asm rb]
  | .eAdd rd ra rb => [Reg.asm rd, Reg.asm ra, Reg.asm rb]
  | .eMul rd ra rb => [Reg.asm rd, Reg.asm ra, Reg.asm rb]

/-- The mnemonic in assembler text: REDUCE with `S = 1` is written REDUCE.S (R103). -/
def Instr.asmMnemonic : Instr → String
  | .reduce _ _ _ true => "REDUCE.S"
  | i => i.mnemonic

/-- The assembler text of a command (R103). -/
def Instr.asm (i : Instr) : String :=
  match i.asmOperands with
  | [] => i.asmMnemonic
  | ops => i.asmMnemonic ++ " " ++ String.intercalate ", " ops

/-- `LDG.W Bd`: the W generator into pair `d`, `d <= 14` (R104). -/
def pseudoLdgW (d : Reg) : List Instr := [.ldc d .wgx, .ldc (d + 1) .wgy]

/-- `LDG.E Bd`: the E generator into pair `d`, `d <= 14` (R104). -/
def pseudoLdgE (d : Reg) : List Instr := [.ldc d .egx, .ldc (d + 1) .egy]

/-- `E_DBL Bd, Ba`: Edwards doubling by self-addition (R104). -/
def pseudoEDbl (d a : Reg) : List Instr := [.eAdd d a a]

/-- The command the decoder reads from a table word of `nbits` bits; every bit of the 32-bit command
above `nbits` is zero, and no command is longer than one 32-bit word (R90). -/
def decodeTableWord (nbits w : Nat) : Option Instr :=
  if nbits ≤ 32 ∧ w < 2 ^ nbits then
    match decode (BitVec.ofNat 32 w) with
    | .ok i => some i
    | .error _ => none
  else none

end Sys2Proof
end

