-- ==== Sys2Proof/Machine/State.lean ====
section
/-! DEFINITION. The state of the engine (10_state R21), the moves of its environment (20_memory R64 to
R66, 70_reset R310), the reasons a step can stop, and the state right after reset (10_state R41). -/

namespace Sys2Proof.Machine

/-- `STATUS.ERR` (60_exceptions R283). The codes 6 to 15 are never produced. -/
inductive ErrorCode where
  /-- 0, E_NONE: no error. -/
  | none
  /-- 1, E_ILLEGAL: the word in CMD is no command. -/
  | illegal
  /-- 2, E_HSTATE: the hash command is not allowed in the current hash state. -/
  | hstate
  /-- 3, E_MSGLEN: the message does not fit, padded, in MB. -/
  | msglen
  /-- 4, E_MODULUS: the modulus register holds 0, or for INVERT a value below 2. -/
  | modulus
  /-- 5, E_RANGE: a point coordinate is not below the field prime. -/
  | range
  deriving DecidableEq, Repr

/-- The hash state machine HS (10_state R35). The values 5 to 7 are never taken. -/
inductive HashState where
  /-- 0, None. -/
  | none
  /-- 1, Initialized. -/
  | initialized
  /-- 2, Padded. -/
  | padded
  /-- 3, Processing. -/
  | processing
  /-- 4, Finalized. -/
  | finalized
  deriving DecidableEq, Repr

/-- One access of the host to the bus window (20_memory R64, R75). `word` is the byte offset divided by
4: the two low address bits do not exist on the bus. -/
inductive BusAccess where
  /-- a word read. -/
  | read (word : Nat)
  /-- a word write with its four byte strobes, bit `i` of `strobes` for lane `i`. -/
  | write (word : Nat) (data : Word) (strobes : BitVec 4)
  deriving DecidableEq, Repr

/-- Who moves next (10_state R20; log entry 4). -/
inductive Move where
  /-- the host makes one access to the bus window. -/
  | bus (a : BusAccess)
  /-- the engine makes its completion step, if a command is in execution. -/
  | engine
  /-- the hard reset input is pulsed (70_reset R310). -/
  | hardReset
  deriving DecidableEq, Repr

/-- The message buffer: (offset, byte) pairs, offsets strictly rising, no entry equal to what an
unlisted offset reads as (log entry 5). -/
abbrev Memory := List Host.Cell

/-- The machine. The fields from `b` to `mb` are the architectural state of 10_state R21, and nothing
else is; `config` is the machine's fixed parameter (00_scope R10); `schedule`, `readData` and
`draws` are the model's own (log entries 2 to 4). -/
structure State where
  /-- `B[0..15]` (R22). -/
  b : Vector Big 16
  /-- flag Z, STATUS[2] (R25). -/
  z : Bool
  /-- flag INF, STATUS[3] (R25). -/
  inf : Bool
  /-- CMD, the last accepted command word (R28). -/
  cmd : Word
  /-- STATUS.BUSY (R29). -/
  busy : Bool
  /-- STATUS.DONE (R29). -/
  done : Bool
  /-- STATUS.ERR (R29, R283). -/
  err : ErrorCode
  /-- STATUS.HAZ (R29, R316). -/
  haz : Bool
  /-- CTRL.IE_DONE (R30). -/
  ieDone : Bool
  /-- CTRL.IE_ERR (R30). -/
  ieErr : Bool
  /-- MLEN, the message length in bytes (R31). -/
  mlen : Word
  /-- PLEN, the padded length in bytes (R32). -/
  plen : Word
  /-- BLK, the number of blocks compressed (R33). -/
  blk : Word
  /-- HS, STATUS[10:8] (R35). -/
  hs : HashState
  /-- HV, STATUS[13:12] (R36). -/
  hv : Variant
  /-- `H[0..7]`, the running digest state (R37). -/
  h : Vector HashWord 8
  /-- `DG[0..63]`, the digest output (R38). -/
  dg : Vector Byte 64
  /-- `MB[0..MSG_CAP-1]`, the message buffer (20_memory R61). -/
  mb : Memory
  /-- the parameter MSG_CAP; no step changes it. -/
  config : Config
  /-- the moves still to come, next first; when it is empty the engine moves (log entry 4). -/
  schedule : List Move
  /-- the word the last bus read returned to the host (R66). -/
  readData : Word
  /-- how many free values have been drawn (log entries 2 and 3). -/
  draws : Nat
  deriving DecidableEq, Repr

/-- Reasons the machine stops with a fault. -/
inductive Fault where
  /-- H_COMPRESS would read a block that does not lie in `MB[0..MSG_CAP-1]`. Raised by
  `execHCompress` only, in states no run reaches (`PLEN <= MSG_CAP`, 20_memory R79). Safe. -/
  | messageBufferBound (offset : Nat)
  deriving DecidableEq, Repr

/-- Reasons an instruction has no meaning. -/
inductive Refusal where
  /-- an instruction whose meaning is not written. Raised by an arm of `exec` only; no arm does. Safe. -/
  | notModelled (mnemonic : String)
  deriving DecidableEq, Repr

/-- The machine right after reset (R41, R310). The control state has the spec's values; `B`, `H` and
`DG` are unspecified there and hold zero here, and MB lists nothing (log entry 6). Nothing is
scheduled: nothing executes after reset until the host writes CMD (R312). -/
def State.reset : State where
  b := Vector.replicate 16 0
  z := false
  inf := false
  cmd := 0
  busy := false
  done := false
  err := .none
  haz := false
  ieDone := false
  ieErr := false
  mlen := 0
  plen := 0
  blk := 0
  hs := .none
  hv := .v20
  h := Vector.replicate 8 0
  dg := Vector.replicate 64 0
  mb := []
  config := Config.standard
  schedule := []
  readData := 0
  draws := 0

end Sys2Proof.Machine
end

