-- ==== Sys2Proof/Machine/Memory.lean ====
section
/-! DEFINITION. The message buffer MB as plain data (20_memory R61; log entry 5) and `MemRead`,
`MemWrite` of 00_scope R15. -/

namespace Sys2Proof.Machine

/-- What a byte of MB that is not listed reads as (log entry 5). -/
def Memory.unlisted : Byte := 0

/-- `MB[a]`. -/
def Memory.read (m : Memory) (a : Nat) : Byte :=
  match m with
  | [] => Memory.unlisted
  | (k, v) :: rest => if k = a then v else Memory.read rest a

/-- `MB[a] <- v`, keeping the canonical form. -/
def Memory.write (m : Memory) (a : Nat) (v : Byte) : Memory :=
  match m with
  | [] => if v = Memory.unlisted then [] else [(a, v)]
  | (k, u) :: rest =>
    if a < k then (if v = Memory.unlisted then (k, u) :: rest else (a, v) :: (k, u) :: rest)
    else if a = k then (if v = Memory.unlisted then rest else (a, v) :: rest)
    else (k, u) :: Memory.write rest a v

/-- `MemRead(MB, a, n)` (R15). -/
def Memory.readBytes (m : Memory) (a n : Nat) : List Byte :=
  (List.range n).map fun i => m.read (a + i)

/-- `MemWrite(MB, a, n, s)` with `n` the length of `s` (R15). -/
def Memory.writeBytes (m : Memory) (a : Nat) (s : List Byte) : Memory :=
  match s with
  | [] => m
  | v :: rest => Memory.writeBytes (m.write a v) (a + 1) rest

/-- The buffer whose bytes `0 .. n-1` are given by `f`, in canonical form. -/
def Memory.ofFn (n : Nat) (f : Nat → Byte) : Memory :=
  (List.range n).filterMap fun a => if f a = Memory.unlisted then none else some (a, f a)

/-- The canonical form: offsets strictly rising, no entry equal to what an unlisted offset reads as. -/
def Memory.wf (m : Memory) : Bool :=
  decide (m.Pairwise fun x y => x.1 < y.1) && m.all fun x => decide (x.2 ≠ Memory.unlisted)

/-- Every listed offset is below `n`. -/
def Memory.below (m : Memory) (n : Nat) : Bool := m.all fun x => decide (x.1 < n)

end Sys2Proof.Machine
end

