-- ==== Sys2Proof/Machine/Ops.lean ====
section
/-! DEFINITION. The operations every command and every bus access is written with: big registers,
completion (40_control R119), the command error and the return from it (60_exceptions R281, R288),
acceptance of a command (10_state R28), and reset (10_state R41, 70_reset R310). -/

namespace Sys2Proof.Machine

/-- What a command, an access or a step answers. -/
abbrev Answer := Host.Outcome State Fault Refusal

/-- `B[i]` (00_scope R15, 10_state R22). -/
def State.readB (s : State) (i : Reg) : Big := s.b[i]

/-- `B[i] <- v` (R15, R22): no register is hardwired and none has an alias. -/
def State.writeB (s : State) (i : Reg) (v : Big) : State := { s with b := s.b.set i v }

/-- The end of a completion step without error: `STATUS.DONE <- 1`, `STATUS.BUSY <- 0` (R119). -/
def State.complete (s : State) : State := { s with busy := false, done := true }

/-- TAKING THE ONE EXCEPTION, the command error: `STATUS.ERR <- code(E)`, `STATUS.BUSY <- 0`, nothing
else; DONE stays as acceptance left it, and CMD keeps the word that failed (R281, R286). -/
def State.raise (s : State) (e : ErrorCode) : State := { s with err := e, busy := false }

/-- RETURNING FROM IT, `CTRL.CLRERR`: `STATUS.ERR <- 0`, `STATUS.HAZ <- 0`, nothing else (R288). -/
def State.clearError (s : State) : State := { s with err := .none, haz := false }

/-- `STATUS.HAZ <- 1` for a dropped host write (R316). -/
def State.hazard (s : State) : State := { s with haz := true }

/-- An accepted write of `w` to CMD: `CMD <- w`, `STATUS.BUSY <- 1`, `STATUS.DONE <- 0` (R28). -/
def State.accept (s : State) (w : Word) : State := { s with cmd := w, busy := true, done := false }

/-- A reset, hard or soft (R41, R310, R311): the control state takes its reset values, a command in
execution is abandoned without a completion step, and the bulk storage is unspecified: every
element of `B`, `H`, `DG` and `MB` is a free value, new at every reset (log entry 2).  The host's
moves to come, the word it last read and the parameter are not state of the engine. -/
def State.takeReset (s : State) : State where
  b := Vector.ofFn fun i => Config.freeBig s.draws i.val
  z := false
  inf := false
  cmd := 0
  busy := false
  done := false
  err := .none
  haz := false
  ieDone := false
  ieErr := false
  mlen := 0
  plen := 0
  blk := 0
  hs := .none
  hv := .v20
  h := Vector.ofFn fun k => Config.freeHashWord s.draws k.val
  dg := Vector.ofFn fun k => Config.freeDigestByte s.draws k.val
  mb := Memory.ofFn s.config.msgCap (Config.freeMessageByte s.draws)
  config := s.config
  schedule := s.schedule
  readData := s.readData
  draws := s.draws + 1

/-- A command that ends without error in the state `s` (R119). -/
def finish (s : State) : Answer := .next s.complete

/-- `raise E` of the command rules: a command that ends in error (R15, R281). -/
def fail (e : ErrorCode) (s : State) : Answer := .next (s.raise e)

/-- The command word in execution: there is no fetch, it is the content of CMD (20_memory R83). -/
def State.commandWord (s : State) : Word := s.cmd

end Sys2Proof.Machine
end

