-- ==== Sys2Proof/Machine/Flags.lean ====
section
/-! DEFINITION. The two result flags (10_state R25), the STATUS and CTRL words (R29, R30) and the
interrupt output (R42). -/

namespace Sys2Proof.Machine

/-- Z after a MAU command that wrote `r`: 1 exactly when `r` is 0 (R25). -/
def State.withZ (s : State) (r : Nat) : State := { s with z := decide (r = 0) }

/-- INF after an ECU command that wrote the pair `(x, y)`: 1 exactly when it is the sentinel (R25). -/
def State.withInf (s : State) (x y : Nat) : State := { s with inf := decide (x = 0 ∧ y = 0) }

/-- The code of an error (60_exceptions R283). -/
def ErrorCode.code : ErrorCode → Nat
  | .none => 0
  | .illegal => 1
  | .hstate => 2
  | .msglen => 3
  | .modulus => 4
  | .range => 5

/-- The value of HS (R35). -/
def HashState.code : HashState → Nat
  | .none => 0
  | .initialized => 1
  | .padded => 2
  | .processing => 3
  | .finalized => 4

/-- STATUS as the host reads it: BUSY [0], DONE [1], Z [2], INF [3], ERR [7:4], HS [10:8], HAZ [11],
HV [13:12], the other bits 0 (R29). -/
def State.statusWord (s : State) : Word :=
  BitVec.ofNat 32
    (s.busy.toNat + s.done.toNat * 2 ^ 1 + s.z.toNat * 2 ^ 2 + s.inf.toNat * 2 ^ 3
      + s.err.code * 2 ^ 4 + s.hs.code * 2 ^ 8 + s.haz.toNat * 2 ^ 11 + s.hv.number * 2 ^ 12)

/-- CTRL as the host reads it: IE_DONE [2], IE_ERR [3], the W1 bits and the other bits 0 (R30). -/
def State.ctrlWord (s : State) : Word :=
  BitVec.ofNat 32 (s.ieDone.toNat * 2 ^ 2 + s.ieErr.toNat * 2 ^ 3)

/-- The interrupt output: `(DONE AND IE_DONE) OR (ERR != 0 AND IE_ERR)`, a function of state (R42). -/
def State.irq (s : State) : Bool := (s.done && s.ieDone) || (decide (s.err ≠ .none) && s.ieErr)

end Sys2Proof.Machine
end

