-- ==== Sys2Proof/Machine/Bus.lean ====
section
/-! DEFINITION. The host's bus window: the address map (20_memory R64), what a read returns (R65 to R71,
70_reset R317) and what a write does (10_state R28, R30; 20_memory R75; 70_reset R316). -/

namespace Sys2Proof.Machine

/-- What a word of the window is (R64). -/
inductive Target where
  | id | cmd | status | ctrl | mlen | plen | blk | cap
  /-- word `k` of DG (R70). -/
  | dg (k : Nat)
  /-- word `k` of H (R69). -/
  | h (k : Nat)
  /-- word `j` of `B[i]` (R68). -/
  | b (i : Reg) (j : Nat)
  /-- the word `MB[4q .. 4q+3]` (R71). -/
  | mb (q : Nat)
  /-- a reserved offset (R65). -/
  | reserved
  deriving DecidableEq, Repr

/-- The address map, by word index: the offset of R64 divided by 4 (log entry 12). -/
def target (c : Config) (word : Nat) : Target :=
  let offset := 4 * word
  if offset = 0x0000 then .id
  else if offset = 0x0004 then .cmd
  else if offset = 0x0008 then .status
  else if offset = 0x000C then .ctrl
  else if offset = 0x0010 then .mlen
  else if offset = 0x0014 then .plen
  else if offset = 0x0018 then .blk
  else if offset = 0x001C then .cap
  else if 0x0040 ≤ offset ∧ offset ≤ 0x007F then .dg ((offset - 0x0040) / 4)
  else if 0x0080 ≤ offset ∧ offset ≤ 0x00BF then .h ((offset - 0x0080) / 4)
  else if 0x0400 ≤ offset ∧ offset ≤ 0x07FF then
    .b (Fin.ofNat 16 ((offset - 0x0400) / 64)) ((offset - 0x0400) % 64 / 4)
  else if 0x1000 ≤ offset ∧ offset < 0x1000 + c.msgCap then .mb ((offset - 0x1000) / 4)
  else .reserved

/-- The identification constant (10_state R27). -/
def idWord : Word := 0x43504501

/-- Four bytes as a bus word, the lowest index in the least significant lane (R73). -/
def laneWord (b0 b1 b2 b3 : Byte) : Word := BitVec.ofNat 32 (leInt [b0, b1, b2, b3])

/-- The value a word of the window holds (R65, R68 to R71). -/
def State.windowWord (s : State) (t : Target) : Word :=
  match t with
  | .id => idWord
  | .cmd => s.cmd
  | .status => s.statusWord
  | .ctrl => s.ctrlWord
  | .mlen => s.mlen
  | .plen => s.plen
  | .blk => s.blk
  | .cap => BitVec.ofNat 32 s.config.msgCap
  | .dg k =>
    laneWord (s.dg[4 * k]?.getD 0) (s.dg[4 * k + 1]?.getD 0) (s.dg[4 * k + 2]?.getD 0) (s.dg[4 * k + 3]?.getD 0)
  | .h k => (s.h[k / 2]?.getD 0).extractLsb' (32 * (k % 2)) 32
  | .b i j => (s.readB i).extractLsb' (32 * j) 32
  | .mb q => laneWord (s.mb.read (4 * q)) (s.mb.read (4 * q + 1)) (s.mb.read (4 * q + 2)) (s.mb.read (4 * q + 3))
  | .reserved => 0

/-- The words the engine owns between acceptance and completion (20_memory R80, 70_reset R317). -/
def Target.owned : Target → Bool
  | .mlen => true
  | .plen => true
  | .blk => true
  | .dg _ => true
  | .h _ => true
  | .b _ _ => true
  | .mb _ => true
  | .id => false
  | .cmd => false
  | .status => false
  | .ctrl => false
  | .cap => false
  | .reserved => false

/-- A word read: the value goes to the host and nothing else changes (R67); while BUSY a word the
engine owns returns a free value, new at every read (R317; log entry 3). -/
def State.busRead (s : State) (word : Nat) : State :=
  let t := target s.config word
  if s.busy && t.owned then { s with readData := Config.freeReadWord s.draws, draws := s.draws + 1 }
  else { s with readData := s.windowWord t }

/-- A full-strobe write of CMD: dropped with HAZ while BUSY or while ERR is not 0, else accepted (R28, R282). -/
def State.writeCmd (s : State) (w : Word) : State :=
  if s.busy ∨ s.err ≠ .none then s.hazard else s.accept w

/-- A full-strobe write of CTRL, legal at any time: SRST resets and ignores the other bits; else the
enables are stored, then CLRERR and CLRDONE act (R30, R316). -/
def State.writeCtrl (s : State) (w : Word) : State :=
  if w.getLsbD 0 then s.takeReset
  else
    let s1 := { s with ieDone := w.getLsbD 2, ieErr := w.getLsbD 3 }
    let s2 := if w.getLsbD 1 then s1.clearError else s1
    if w.getLsbD 4 then { s2 with done := false } else s2

/-- `B[i]` with bits `[32*j+31 : 32*j]` replaced (R68). -/
def replaceWord (v : Big) (j : Nat) (w : Word) : Big :=
  (v &&& ~~~((BitVec.allOnes 32).setWidth 512 <<< (32 * j))) ||| (w.setWidth 512 <<< (32 * j))

/-- The bytes of a strobed word write to MB: lane `i` is stored where bit `i` of `strobes` is 1 (R71, R75). -/
def writeLanes (m : Memory) (q : Nat) (data : Word) (strobes : BitVec 4) : Memory :=
  let store (i : Nat) (m : Memory) : Memory :=
    if strobes.getLsbD i then m.write (4 * q + i) (data.extractLsb' (8 * i) 8) else m
  store 3 (store 2 (store 1 (store 0 m)))

/-- A write that needs all four strobes: with one to three it is dropped and sets HAZ (R75, R316). -/
def State.fullWrite (s : State) (strobes : BitVec 4) (effect : State) : State :=
  if strobes = 0xF then effect else s.hazard

/-- A write to a location the engine owns: while BUSY it is dropped and sets HAZ (R316). -/
def State.idleWrite (s : State) (effect : State) : State :=
  if s.busy then s.hazard else effect

/-- A word write with its strobes. A write with no strobe does nothing (R75; log entry 8); a write to a
read-only or reserved offset is ignored (R65, R316). -/
def State.busWrite (s : State) (word : Nat) (data : Word) (strobes : BitVec 4) : State :=
  if strobes = 0 then s
  else
    match target s.config word with
    | .cmd => s.fullWrite strobes (s.writeCmd data)
    | .ctrl => s.fullWrite strobes (s.writeCtrl data)
    | .mlen => s.fullWrite strobes (s.idleWrite { s with mlen := data })
    | .b i j => s.fullWrite strobes (s.idleWrite (s.writeB i (replaceWord (s.readB i) j data)))
    | .mb q => s.idleWrite { s with mb := writeLanes s.mb q data strobes }
    | .id => s
    | .status => s
    | .plen => s
    | .blk => s
    | .cap => s
    | .dg _ => s
    | .h _ => s
    | .reserved => s

/-- One access of the host, complete and atomic (20_memory R77, R80). -/
def State.busAccess (s : State) (a : BusAccess) : State :=
  match a with
  | .read word => s.busRead word
  | .write word data strobes => s.busWrite word data strobes

end Sys2Proof.Machine
end

