-- ==== Sys2Proof/Machine/Arith.lean ====
section
/-! DEFINITION. The integer functions of the MAU (41_modarith R130 to R133). -/

namespace Sys2Proof.Machine

/-- `reduce(a, m)`: the true mathematical modulo, for an integer `a` of either sign (R131, 00_scope R11). -/
def reduce (a : Int) (m : Nat) : Nat := (a % (m : Int)).toNat

/-- Square and multiply over the bits of `e`, least significant first; `fuel` bounds the bits read. -/
def powLoop (m fuel base e acc : Nat) : Nat :=
  match fuel with
  | 0 => acc % m
  | fuel + 1 =>
    if e = 0 then acc % m
    else powLoop m fuel (base * base % m) (e / 2) (if e % 2 = 1 then acc * base % m else acc)

/-- `modexp(b, e, m) = b^e mod m`, with `b^0 = 1` for every `b` (R133).  R133 leaves the algorithm free;
this one is square and multiply, and that it is the power is a statement. -/
def modexp (b e m : Nat) : Nat := powLoop m (Nat.log2 e + 1) b e 1

/-- `invert(a, m) = modexp(a, m - 2, m)`, by this formula and nothing else, also outside CP's
precondition (R132, R141). -/
def invert (a m : Nat) : Nat := modexp a (m - 2) m

end Sys2Proof.Machine
end

