-- ==== Sys2Proof/Machine/Operands.lean ====
section
/-! DEFINITION. Every operand form: a big register read unsigned or in two's complement (30_encoding R93,
00_scope R12), a register pair as a point (10_state R23), a ROM constant (20_memory R62), and the two
ways a command writes a result with its flag (10_state R25). -/

namespace Sys2Proof.Machine

/-- A point operand: a pair of coordinates (R23). -/
structure Point where
  x : Nat
  y : Nat
  deriving DecidableEq, Repr

/-- The identity sentinel `(0, 0)` of both curves (43_weierstrass R202, 44_edwards R232). -/
def sentinel : Point := ⟨0, 0⟩

/-- `B[i]` as an unsigned integer (R22). -/
def State.unsignedB (s : State) (i : Reg) : Nat := (s.readB i).toNat

/-- `sint_512(B[i])`: the two's complement reading (R12, 41_modarith R134). -/
def State.signedB (s : State) (i : Reg) : Int := (s.readB i).toInt

/-- `PT(i) = (B[i], B[i+1])`, for `i <= 14` (R15, R23). -/
def State.readPair (s : State) (i : Reg) : Point := ⟨s.unsignedB i, s.unsignedB (i + 1)⟩

/-- `PT(i) <- (x, y)`, for `i <= 14` (R15). -/
def State.writePair (s : State) (i : Reg) (p : Point) : State :=
  (s.writeB i (BitVec.ofNat 512 p.x)).writeB (i + 1) (BitVec.ofNat 512 p.y)

/-- Both coordinates are below the field prime (43_weierstrass R201, 44_edwards R231). -/
def Point.inField (p : Point) (prime : Nat) : Bool := decide (p.x < prime ∧ p.y < prime)

/-- The constant ROM (20_memory R62). -/
def romValue : ConstName → Nat
  | .wp => Config.w.prime
  | .wn => Config.w.order
  | .wgx => Config.w.gx
  | .wgy => Config.w.gy
  | .wb => Config.w.coeff
  | .ep => Config.e.prime
  | .el => Config.e.order
  | .egx => Config.e.gx
  | .egy => Config.e.gy
  | .ed => Config.e.coeff

/-- The end of a MAU command: `B[rd] <- r`, `Z <- (r = 0)` (R25, R134 to R139). -/
def finishResidue (rd : Reg) (r : Nat) (s : State) : Answer :=
  finish ((s.writeB rd (BitVec.ofNat 512 r)).withZ r)

/-- The end of an ECU command: `PT(rd) <- p`, `INF <- 1 if p = (0, 0) else 0` (R25, R204). -/
def finishPoint (rd : Reg) (p : Point) (s : State) : Answer :=
  finish ((s.writePair rd p).withInf p.x p.y)

end Sys2Proof.Machine
end

