-- ==== Sys2Proof/Machine/Control.lean ====
section
/-! DEFINITION. NOP and LDC (40_control R120, R121). -/

namespace Sys2Proof.Machine

/-- NOP: only `DONE <- 1`, `BUSY <- 0` (R120). -/
def execNop (s : State) : Answer := finish s

/-- LDC: `B[rd] <- ROM[c]`; no flag (R121). -/
def execLdc (rd : Reg) (c : ConstName) (s : State) : Answer :=
  finish (s.writeB rd (BitVec.ofNat 512 (romValue c)))

end Sys2Proof.Machine
end

