-- ==== Sys2Proof/Machine/Curve.lean ====
section
/-! DEFINITION. The point functions of the two curves (43_weierstrass R203, R206; 44_edwards R233, R235),
over a curve given as an argument.  The cases are tried in the order of the rules. -/

namespace Sys2Proof.Machine

/-- `w_dbl`: the one formula, with no case of its own for the sentinel or for `y = 0` (R203). -/
def wDouble (c : Curve) (a : Point) : Point :=
  let p := c.prime
  let x : Int := a.x
  let y : Int := a.y
  let m : Int := reduce (3 * x * x * invert (reduce (2 * y) p) p) p
  let x3 := reduce (m * m - x - x) p
  let y3 := reduce (m * (x - x3) - y) p
  ⟨x3, y3⟩

/-- Case (d) of `w_add`: the chord formula (R203). -/
def wChord (c : Curve) (a b : Point) : Point :=
  let p := c.prime
  let x1 : Int := a.x
  let y1 : Int := a.y
  let x2 : Int := b.x
  let y2 : Int := b.y
  let m : Int := reduce ((y2 - y1) * invert (reduce (x2 - x1) p) p) p
  let x3 := reduce (m * m - x1 - x2) p
  let y3 := reduce (m * (x1 - x3) - y1) p
  ⟨x3, y3⟩

/-- `w_add`: cases (a), (b), (c), (d) in this order, the first that holds wins (R203). -/
def wSum (c : Curve) (a b : Point) : Point :=
  if a.x = b.x ∧ a.y = b.y then wDouble c a
  else if a.x = b.x ∧ a.y = reduce (-(b.y : Int)) c.prime then sentinel
  else if a = sentinel then b
  else if b = sentinel then a
  else wChord c a b

/-- Line (f) of `e_add`: the formula with `a = -1` (R233). -/
def eFormula (c : Curve) (a b : Point) : Point :=
  let p := c.prime
  let d : Int := c.coeff
  let x1 : Int := a.x
  let y1 : Int := a.y
  let x2 : Int := b.x
  let y2 : Int := b.y
  let t : Int := reduce (d * x1 * x2 * y1 * y2) p
  let x3 := reduce ((x1 * y2 + y1 * x2) * invert (reduce (1 + t) p) p) p
  let y3 := reduce ((y1 * y2 + x1 * x2) * invert (reduce (1 - t) p) p) p
  ⟨x3, y3⟩

/-- `e_add`: the negation case (n), the sentinel cases (i), the formula (f) (R233). -/
def eSum (c : Curve) (a b : Point) : Point :=
  if b.x = reduce (-(a.x : Int)) c.prime ∧ b.y = a.y then sentinel
  else if a = sentinel then b
  else if b = sentinel then a
  else eFormula c a b

/-- Double-and-add over the bits of `k`, least significant first, until the remaining scalar is 0
(R206, R235); `fuel` bounds the bits read. -/
def scalarLoop (add : Point → Point → Point) (dbl : Point → Point) (fuel k : Nat) (acc run : Point) : Point :=
  match fuel with
  | 0 => acc
  | fuel + 1 =>
    if k = 0 then acc
    else scalarLoop add dbl fuel (k / 2) (if k % 2 = 1 then add acc run else acc) (dbl run)

/-- The loop of W_MUL: `acc` starts at the sentinel, `run` at the base; `bitlen(k)` iterations (R206). -/
def wProduct (c : Curve) (a : Point) (k : Nat) : Point :=
  scalarLoop (wSum c) (wDouble c) (bitLength k) k sentinel a

/-- The loop of E_MUL: doubling is self-addition (R235, 90_conflicts C3). -/
def eProduct (c : Curve) (a : Point) (k : Nat) : Point :=
  scalarLoop (eSum c) (fun q => eSum c q q) (bitLength k) k sentinel a

end Sys2Proof.Machine
end

