-- ==== Sys2Proof/Machine/Edwards.lean ====
section
/-! DEFINITION. E_ADD, E_MUL (44_edwards R234, R235).  A pair index of 15 is E_ILLEGAL (30_encoding R100;
log entry 11), a coordinate not below EP is E_RANGE (R231). -/

namespace Sys2Proof.Machine

/-- E_ADD (R234). -/
def execEAdd (rd ra rb : Reg) (s : State) : Answer :=
  if (Instr.eAdd rd ra rb).wf = false then fail .illegal s
  else if ((s.readPair ra).inField Config.e.prime && (s.readPair rb).inField Config.e.prime) = false then
    fail .range s
  else finishPoint rd (eSum Config.e (s.readPair ra) (s.readPair rb)) s

/-- E_MUL: the scalar is all 512 bits of `B[rb]`, not reduced and not range checked (R235). -/
def execEMul (rd ra rb : Reg) (s : State) : Answer :=
  if (Instr.eMul rd ra rb).wf = false then fail .illegal s
  else if (s.readPair ra).inField Config.e.prime = false then fail .range s
  else finishPoint rd (eProduct Config.e (s.readPair ra) (s.unsignedB rb)) s

end Sys2Proof.Machine
end

