-- ==== Sys2Proof/Machine/Hash.lean ====
section
/-! DEFINITION. The hash functions (42_hash R160 to R176): the parameters of a variant, padding,
segmentation, schedule, rounds, and the four updates of the hash context the commands are made of. -/

namespace Sys2Proof.Machine

/-- Word bytes `WB` (R160). -/
def wordBytes : Variant → Nat
  | .v20 => 4
  | .v32 => 4
  | .v64 => 8

/-- Digest words `NH` (R160). -/
def digestWords : Variant → Nat
  | .v20 => 5
  | .v32 => 8
  | .v64 => 8

/-- Digest bytes `DLEN` (R160). -/
def digestBytes : Variant → Nat
  | .v20 => 20
  | .v32 => 32
  | .v64 => 64

/-- Rounds `NR` (R160). -/
def roundCount : Variant → Nat
  | .v20 => 80
  | .v32 => 64
  | .v64 => 80

/-- Block bytes `BS` (R160). -/
def blockBytes : Variant → Nat
  | .v20 => 64
  | .v32 => 64
  | .v64 => 128

/-- Length field bytes `LF` (R160). -/
def lengthBytes : Variant → Nat
  | .v20 => 8
  | .v32 => 8
  | .v64 => 16

/-- `PLEN(L, v) = BS * ceil((L + 1 + LF) / BS)` (R168). -/
def paddedLength (v : Variant) (len : Nat) : Nat :=
  blockBytes v * ((len + 1 + lengthBytes v + (blockBytes v - 1)) / blockBytes v)

/-- `NZ(L, v) = PLEN(L, v) - L - 1 - LF` (R168). -/
def zeroCount (v : Variant) (len : Nat) : Nat := paddedLength v len - len - 1 - lengthBytes v

/-- What `pad` appends to a message of `len` bytes: 0x80, the zero bytes, `be_LF(8 * L)` (R168). -/
def padding (v : Variant) (len : Nat) : List Byte :=
  [0x80] ++ List.replicate (zeroCount v len) 0 ++ beBytes (lengthBytes v) (8 * len)

/-- The message does not fit, padded, in MB: the condition of E_MSGLEN (R171, R177). -/
def messageTooLong (cap : Nat) (v : Variant) (len : Nat) : Bool :=
  decide (cap < len ∨ cap < paddedLength v len)

/-- Block segmentation: words `W[0..15]` of the block at offset `base`, big-endian (R172, 20_memory R72). -/
def messageWords (w : Nat) (v : Variant) (mb : Memory) (base : Nat) : List (BitVec w) :=
  (List.range 16).map fun t =>
    BitVec.ofNat w (beInt (mb.readBytes (base + t * wordBytes v) (wordBytes v)))

/-- `Ch(x,y,z) = (x AND y) XOR ((NOT x) AND z)` (R163). -/
def choose {w : Nat} (x y z : BitVec w) : BitVec w := (x &&& y) ^^^ (~~~x &&& z)

/-- `Maj(x,y,z) = (x AND y) XOR (x AND z) XOR (y AND z)` (R163). -/
def majority {w : Nat} (x y z : BitVec w) : BitVec w := (x &&& y) ^^^ (x &&& z) ^^^ (y &&& z)

/-- BSIG0, BSIG1: the XOR of three right rotations (R163, R165). -/
def bigSigma {w : Nat} (r : Nat × Nat × Nat) (x : BitVec w) : BitVec w :=
  x.rotateRight r.1 ^^^ x.rotateRight r.2.1 ^^^ x.rotateRight r.2.2

/-- SSIG0, SSIG1: the XOR of two right rotations and a right shift (R163, R165). -/
def smallSigma {w : Nat} (r : Nat × Nat × Nat) (x : BitVec w) : BitVec w :=
  x.rotateRight r.1 ^^^ x.rotateRight r.2.1 ^^^ x >>> r.2.2

/-- The next schedule word of V20.  `rev` holds the words so far, the latest first, so `W[t-n]` is
`rev[n-1]`: `ROTL(W[t-3] XOR W[t-8] XOR W[t-14] XOR W[t-16], 1)` (R172). -/
def nextWord1 (rev : List Word) : Word :=
  (rev.getD 2 0 ^^^ rev.getD 7 0 ^^^ rev.getD 13 0 ^^^ rev.getD 15 0).rotateLeft 1

/-- The next schedule word of V32 and V64:
`SSIG1(W[t-2]) + W[t-7] + SSIG0(W[t-15]) + W[t-16]` (R172). -/
def nextWord2 {w : Nat} (c : Sha2Tables w) (rev : List (BitVec w)) : BitVec w :=
  smallSigma c.ssig1 (rev.getD 1 0) + rev.getD 6 0 + smallSigma c.ssig0 (rev.getD 14 0) + rev.getD 15 0

/-- `n` more schedule words (R172). -/
def extendSchedule {w : Nat} (next : List (BitVec w) → BitVec w) (n : Nat) (rev : List (BitVec w)) : List (BitVec w) :=
  match n with
  | 0 => rev
  | n + 1 => extendSchedule next n (next rev :: rev)

/-- The schedule `W[0 .. NR-1]` from the 16 message words (R172). -/
def messageSchedule {w : Nat} (next : List (BitVec w) → BitVec w) (rounds : Nat) (block : List (BitVec w)) : List (BitVec w) :=
  (extendSchedule next (rounds - 16) block.reverse).reverse

/-- The working set of V20 (R174). -/
structure Working5 where
  a : Word
  b : Word
  c : Word
  d : Word
  e : Word
  deriving DecidableEq, Repr

/-- The working set of V32 and V64 (R175). -/
structure Working8 (w : Nat) where
  a : BitVec w
  b : BitVec w
  c : BitVec w
  d : BitVec w
  e : BitVec w
  f : BitVec w
  g : BitVec w
  h : BitVec w
  deriving DecidableEq, Repr

/-- `f_t` of V20: choose, parity, majority, parity by round range (R161). -/
def roundFunction1 (t : Nat) (b c d : Word) : Word :=
  if t < 20 then (b &&& c) ||| (~~~b &&& d)
  else if t < 40 then b ^^^ c ^^^ d
  else if t < 60 then (b &&& c) ||| (b &&& d) ||| (c &&& d)
  else b ^^^ c ^^^ d

/-- Round `t` of V20 on schedule word `x` (R174). -/
def round1 (k : Sha1Tables) (t : Nat) (x : Word) (s : Working5) : Working5 :=
  ⟨s.a.rotateLeft 5 + roundFunction1 t s.b s.c s.d + s.e + k.k.getD (t / 20) 0 + x,
   s.a, s.b.rotateLeft 30, s.c, s.d⟩

/-- The rounds of V20 from round `t` on (R174). -/
def rounds1 (k : Sha1Tables) (t : Nat) (words : List Word) (s : Working5) : Working5 :=
  match words with
  | [] => s
  | x :: rest => rounds1 k (t + 1) rest (round1 k t x s)

/-- One round of V32 or V64 on round constant `k` and schedule word `x` (R175). -/
def round2 {w : Nat} (c : Sha2Tables w) (k x : BitVec w) (s : Working8 w) : Working8 w :=
  let t1 := s.h + bigSigma c.bsig1 s.e + choose s.e s.f s.g + k + x
  let t2 := bigSigma c.bsig0 s.a + majority s.a s.b s.c
  ⟨t1 + t2, s.a, s.b, s.c, s.d + t1, s.e, s.f, s.g⟩

/-- The rounds of V32 or V64 (R175). -/
def rounds2 {w : Nat} (c : Sha2Tables w) (ks words : List (BitVec w)) (s : Working8 w) : Working8 w :=
  match ks, words with
  | k :: ks, x :: words => rounds2 c ks words (round2 c k x s)
  | _, _ => s

/-- `rounds_V20(H, W)` on `H[0..4]` (R174). -/
def compress1 (k : Sha1Tables) (h words : List Word) : List Word :=
  let s := rounds1 k 0 words ⟨h.getD 0 0, h.getD 1 0, h.getD 2 0, h.getD 3 0, h.getD 4 0⟩
  [s.a, s.b, s.c, s.d, s.e]

/-- `rounds_V32(H, W)`, `rounds_V64(H, W)` on `H[0..7]` (R175). -/
def compress2 {w : Nat} (c : Sha2Tables w) (h words : List (BitVec w)) : List (BitVec w) :=
  let s := rounds2 c c.k words
    ⟨h.getD 0 0, h.getD 1 0, h.getD 2 0, h.getD 3 0, h.getD 4 0, h.getD 5 0, h.getD 6 0, h.getD 7 0⟩
  [s.a, s.b, s.c, s.d, s.e, s.f, s.g, s.h]

/-- `H[0 .. n-1]` as `w`-bit words (10_state R37). -/
def readHashWords (w n : Nat) (h : Vector HashWord 8) : List (BitVec w) :=
  (h.toList.take n).map fun x => x.setWidth w

/-- `H` with its first words replaced, each zero-extended to 64 bits; the words beyond the list keep
their value (R37, R173). -/
def writeHashWords {w : Nat} (h : Vector HashWord 8) (words : List (BitVec w)) : Vector HashWord 8 :=
  Vector.ofFn fun i =>
    match words[i.val]? with
    | some x => x.setWidth 64
    | none => h[i]

/-- `H[i] <- H[i] +w ws[i]` for the words of one block of variant `v` at offset `base` (R172 to R175). -/
def compressWords (v : Variant) (mb : Memory) (base : Nat) (h : Vector HashWord 8) : Vector HashWord 8 :=
  match v with
  | .v20 =>
    let hs := readHashWords 32 5 h
    let words := messageSchedule nextWord1 80 (messageWords 32 .v20 mb base)
    writeHashWords h (List.zipWith (· + ·) hs (compress1 Config.v20 hs words))
  | .v32 =>
    let hs := readHashWords 32 8 h
    let words := messageSchedule (nextWord2 Config.v32) 64 (messageWords 32 .v32 mb base)
    writeHashWords h (List.zipWith (· + ·) hs (compress2 Config.v32 hs words))
  | .v64 =>
    let hs := readHashWords 64 8 h
    let words := messageSchedule (nextWord2 Config.v64) 80 (messageWords 64 .v64 mb base)
    writeHashWords h (List.zipWith (· + ·) hs (compress2 Config.v64 hs words))

/-- The initial value `IV_v`, zero-extended, the unused words 0 (R170). -/
def initialWords (v : Variant) : Vector HashWord 8 :=
  match v with
  | .v20 => writeHashWords (Vector.replicate 8 0) Config.v20.iv
  | .v32 => writeHashWords (Vector.replicate 8 0) Config.v32.iv
  | .v64 => writeHashWords (Vector.replicate 8 0) Config.v64.iv

/-- `be_WB(H[0]) || ... || be_WB(H[NH-1])` (R176, 20_memory R72). -/
def serialize (v : Variant) (h : Vector HashWord 8) : List Byte :=
  (h.toList.take (digestWords v)).flatMap fun x => beBytes (wordBytes v) x.toNat

/-- DG with the given bytes first and 0 after them (R176, R38). -/
def digestBuffer (s : List Byte) : Vector Byte 64 := Vector.ofFn fun k => s.getD k.val 0

/-- The state change of H_INIT `v` (R170). -/
def State.initHash (v : Variant) (s : State) : State :=
  { s with hv := v, h := initialWords v, blk := 0, plen := 0, dg := Vector.replicate 64 0, hs := .initialized }

/-- The state change of H_PAD, with `v = HV` and `L = MLEN` (R171). -/
def State.padMessage (s : State) : State :=
  { s with
    mb := s.mb.writeBytes s.mlen.toNat (padding s.hv s.mlen.toNat)
    plen := BitVec.ofNat 32 (paddedLength s.hv s.mlen.toNat)
    blk := 0
    hs := .padded }

/-- The offset of the next block to compress, `BLK * BS` (R172, R173). -/
def State.blockOffset (s : State) : Nat := s.blk.toNat * blockBytes s.hv

/-- The state change of H_COMPRESS, with `v = HV` (R173). -/
def State.compressBlock (s : State) : State :=
  { s with h := compressWords s.hv s.mb s.blockOffset s.h, blk := s.blk + 1, hs := .processing }

/-- `n` blocks, one after the other (R177). -/
def State.compressBlocks (n : Nat) (s : State) : State :=
  match n with
  | 0 => s
  | n + 1 => State.compressBlocks n s.compressBlock

/-- The state change of H_FINAL, with `v = HV` (R176). -/
def State.finalizeHash (s : State) : State :=
  { s with dg := digestBuffer (serialize s.hv s.h), hs := .finalized }

/-- The state change of H_DIGEST `v`: H_INIT, H_PAD, H_COMPRESS `PLEN / BS` times, H_FINAL (R177). -/
def State.digestMessage (v : Variant) (s : State) : State :=
  let padded := (s.initHash v).padMessage
  (padded.compressBlocks (padded.plen.toNat / blockBytes v)).finalizeHash

end Sys2Proof.Machine
end

