-- ==== Sys2Proof/Machine/HashUnit.lean ====
section
/-! DEFINITION. The commands of the hash unit (42_hash R169 to R177): the checks of the state machine,
then the state changes of Machine/Hash.lean. -/

namespace Sys2Proof.Machine

/-- H_INIT `v`: legal in every hash state (R170). -/
def execHInit (v : Variant) (s : State) : Answer := finish (s.initHash v)

/-- H_PAD: E_HSTATE unless Initialized, then E_MSGLEN, then the padding in place (R171). -/
def execHPad (s : State) : Answer :=
  if s.hs ≠ .initialized then fail .hstate s
  else if messageTooLong s.config.msgCap s.hv s.mlen.toNat then fail .msglen s
  else finish s.padMessage

/-- H_COMPRESS: E_HSTATE unless Padded or Processing, E_HSTATE if every block is compressed, else one
block (R173).  The last test is log entry 10: it fails in no state a run reaches. -/
def execHCompress (s : State) : Answer :=
  if s.hs ≠ .padded ∧ s.hs ≠ .processing then fail .hstate s
  else if s.plen.toNat ≤ s.blockOffset then fail .hstate s
  else if s.config.msgCap < s.blockOffset + blockBytes s.hv then .fault (.messageBufferBound s.blockOffset)
  else finish s.compressBlock

/-- H_FINAL: E_HSTATE unless Processing with every block compressed (R176). -/
def execHFinal (s : State) : Answer :=
  if s.hs ≠ .processing ∨ s.blockOffset ≠ s.plen.toNat then fail .hstate s
  else finish s.finalizeHash

/-- H_DIGEST `v`: E_MSGLEN before any change, else the whole digest; legal in every hash state (R177). -/
def execHDigest (v : Variant) (s : State) : Answer :=
  if messageTooLong s.config.msgCap v s.mlen.toNat then fail .msglen s
  else finish (s.digestMessage v)

end Sys2Proof.Machine
end

