-- ==== Sys2Proof/Machine/Mau.lean ====
section
/-! DEFINITION. The commands of the modular arithmetic unit (41_modarith R134 to R139).  Every
intermediate is an exact integer; only the residue is stored (R130). -/

namespace Sys2Proof.Machine

/-- REDUCE, and REDUCE.S with `signed` (R134). -/
def execReduce (rd ra rm : Reg) (signed : Bool) (s : State) : Answer :=
  if s.unsignedB rm = 0 then fail .modulus s
  else
    let a : Int := if signed then s.signedB ra else s.unsignedB ra
    finishResidue rd (reduce a (s.unsignedB rm)) s

/-- INVERT: `modexp(B[ra], m - 2, m)`; E_MODULUS when `B[rm] < 2` (R135). -/
def execInvert (rd ra rm : Reg) (s : State) : Answer :=
  if s.unsignedB rm < 2 then fail .modulus s
  else finishResidue rd (invert (s.unsignedB ra) (s.unsignedB rm)) s

/-- MODEXP: `modexp(B[ra], B[rb], m)`, the exponent the full 512-bit value (R136). -/
def execModexp (rd ra rb rm : Reg) (s : State) : Answer :=
  if s.unsignedB rm = 0 then fail .modulus s
  else finishResidue rd (modexp (s.unsignedB ra) (s.unsignedB rb) (s.unsignedB rm)) s

/-- MODADD: the exact sum, reduced (R137). -/
def execModadd (rd ra rb rm : Reg) (s : State) : Answer :=
  if s.unsignedB rm = 0 then fail .modulus s
  else finishResidue rd (reduce ((s.unsignedB ra : Int) + s.unsignedB rb) (s.unsignedB rm)) s

/-- MODSUB: the exact difference, possibly negative, reduced (R138). -/
def execModsub (rd ra rb rm : Reg) (s : State) : Answer :=
  if s.unsignedB rm = 0 then fail .modulus s
  else finishResidue rd (reduce ((s.unsignedB ra : Int) - s.unsignedB rb) (s.unsignedB rm)) s

/-- MODMUL: the exact product, reduced (R139). -/
def execModmul (rd ra rb rm : Reg) (s : State) : Answer :=
  if s.unsignedB rm = 0 then fail .modulus s
  else finishResidue rd (reduce ((s.unsignedB ra : Int) * s.unsignedB rb) (s.unsignedB rm)) s

end Sys2Proof.Machine
end

