-- ==== Sys2Proof/Machine/Weierstrass.lean ====
section
/-! DEFINITION. W_ADD, W_DBL, W_MUL (43_weierstrass R204 to R206).  A pair index of 15 is E_ILLEGAL
(30_encoding R100; log entry 11), a coordinate not below WP is E_RANGE (R201). -/

namespace Sys2Proof.Machine

/-- W_ADD (R204). -/
def execWAdd (rd ra rb : Reg) (s : State) : Answer :=
  if (Instr.wAdd rd ra rb).wf = false then fail .illegal s
  else if ((s.readPair ra).inField Config.w.prime && (s.readPair rb).inField Config.w.prime) = false then
    fail .range s
  else finishPoint rd (wSum Config.w (s.readPair ra) (s.readPair rb)) s

/-- W_DBL (R205). -/
def execWDbl (rd ra : Reg) (s : State) : Answer :=
  if (Instr.wDbl rd ra).wf = false then fail .illegal s
  else if (s.readPair ra).inField Config.w.prime = false then fail .range s
  else finishPoint rd (wDouble Config.w (s.readPair ra)) s

/-- W_MUL: the scalar is all 512 bits of `B[rb]`, not reduced and not range checked (R206). -/
def execWMul (rd ra rb : Reg) (s : State) : Answer :=
  if (Instr.wMul rd ra rb).wf = false then fail .illegal s
  else if (s.readPair ra).inField Config.w.prime = false then fail .range s
  else finishPoint rd (wProduct Config.w (s.readPair ra) (s.unsignedB rb)) s

end Sys2Proof.Machine
end

