-- ==== Sys2Proof/Machine/Dispatch.lean ====
section
/-! DEFINITION. One arm per command: the completion step of a legal command (40_control R119). -/

namespace Sys2Proof.Machine

def exec (i : Instr) (s : State) : Host.Outcome State Fault Refusal :=
  match i with
  | .nop => Sys2Proof.Machine.execNop s
  | .ldc rd c => Sys2Proof.Machine.execLdc rd c s
  | .reduce rd ra rm signed => Sys2Proof.Machine.execReduce rd ra rm signed s
  | .invert rd ra rm => Sys2Proof.Machine.execInvert rd ra rm s
  | .modexp rd ra rb rm => Sys2Proof.Machine.execModexp rd ra rb rm s
  | .modadd rd ra rb rm => Sys2Proof.Machine.execModadd rd ra rb rm s
  | .modsub rd ra rb rm => Sys2Proof.Machine.execModsub rd ra rb rm s
  | .modmul rd ra rb rm => Sys2Proof.Machine.execModmul rd ra rb rm s
  | .hInit v => Sys2Proof.Machine.execHInit v s
  | .hPad => Sys2Proof.Machine.execHPad s
  | .hCompress => Sys2Proof.Machine.execHCompress s
  | .hFinal => Sys2Proof.Machine.execHFinal s
  | .hDigest v => Sys2Proof.Machine.execHDigest v s
  | .wAdd rd ra rb => Sys2Proof.Machine.execWAdd rd ra rb s
  | .wDbl rd ra => Sys2Proof.Machine.execWDbl rd ra s
  | .wMul rd ra rb => Sys2Proof.Machine.execWMul rd ra rb s
  | .eAdd rd ra rb => Sys2Proof.Machine.execEAdd rd ra rb s
  | .eMul rd ra rb => Sys2Proof.Machine.execEMul rd ra rb s

end Sys2Proof.Machine
end

