-- ==== Sys2Proof/Machine/Engine.lean ====
section
/-! DEFINITION. The moves of the machine: the engine's completion step (40_control R119), one host access,
a hard reset. -/

namespace Sys2Proof.Machine

/-- The completion step: decode the word in CMD; if it is no command, E_ILLEGAL; else the command (R119, R95). -/
def runCommand (s : State) : Answer :=
  match decode s.commandWord with
  | .ok i => exec i s
  | .error _ => fail .illegal s

/-- The engine's move: the completion step if a command is in execution, else nothing: the engine is
idle (60_exceptions R289, 70_reset R312). -/
def engineMove (s : State) : Answer := if s.busy then runCommand s else .next s

/-- One move from a state whose schedule already holds only the moves after it. -/
def makeMove (m : Move) (s : State) : Answer :=
  match m with
  | .bus a => .next (s.busAccess a)
  | .engine => engineMove s
  | .hardReset => .next s.takeReset

/-- The state in which the word `w` of `nbits` bits has just been accepted in CMD and the engine moves
next (10_state R28; log entry 14). -/
def placeCommand (s : State) (nbits w : Nat) : State :=
  { s.accept (BitVec.ofNat 32 (w % 2 ^ nbits)) with err := .none, schedule := .engine :: s.schedule }

end Sys2Proof.Machine
end

