-- ==== Sys2Proof/Machine/Step.lean ====
section
/-! DEFINITION. One step of the machine: the next scheduled move, or the engine's when none is scheduled
(10_state R20, 70_reset R323; log entry 4). -/

namespace Sys2Proof.Machine

/-- One step. -/
def step (s : State) : Host.Outcome State Fault Refusal :=
  match s.schedule with
  | [] => engineMove s
  | m :: rest => makeMove m { s with schedule := rest }

/-- The command word `w` placed where the next step takes its command: accepted in CMD, the engine's
move first in the schedule (log entry 14). -/
def State.withFetchWord (s : State) (nbits w : Nat) : State := placeCommand s nbits w

end Sys2Proof.Machine
end

