-- ==== Sys2Proof/Machine/HostOps.lean ====
section
/-! DEFINITION. The abstract host operations of 20_memory R66 as lists of moves, each one bus access or
the fixed group R66 binds it to (R68 to R71), and the pseudo-command CLRP (30_encoding R104). -/

namespace Sys2Proof.Machine

/-- A full-strobe word write at a byte offset. -/
def writeAt (offset : Nat) (data : Word) : Move := .bus (.write (offset / 4) data 0xF)

/-- A word read at a byte offset. -/
def readAt (offset : Nat) : Move := .bus (.read (offset / 4))

/-- `HostReadReg(r)` for ID, CMD, STATUS, CTRL, MLEN, PLEN, BLK, CAP, numbered 0 to 7 by offset (R64, R66). -/
def hostReadReg (r : Fin 8) : List Move := [readAt (4 * r.val)]

/-- `HostWriteCMD(w)` (R66). -/
def hostWriteCmd (w : Word) : List Move := [writeAt 0x0004 w]

/-- `HostWriteCTRL(w)` (R66). -/
def hostWriteCtrl (w : Word) : List Move := [writeAt 0x000C w]

/-- `HostWriteMLEN(n)` (R66). -/
def hostWriteMlen (n : Word) : List Move := [writeAt 0x0010 n]

/-- `HostWriteB(i, v)`: 16 word writes, not atomic as a group (R66, R68); the order within the group is
the model's, lowest word first (log entry 13). -/
def hostWriteB (i : Reg) (v : Big) : List Move :=
  (List.range 16).map fun j => writeAt (0x0400 + 64 * i.val + 4 * j) (v.extractLsb' (32 * j) 32)

/-- `HostReadB(i)`: 16 word reads (R66, R68). -/
def hostReadB (i : Reg) : List Move :=
  (List.range 16).map fun j => readAt (0x0400 + 64 * i.val + 4 * j)

/-- `HostWriteMB(a, byte)`: one strobed word write (R66, R71). -/
def hostWriteMb (a : Nat) (v : Byte) : List Move :=
  [.bus (.write ((0x1000 + a) / 4) (v.setWidth 32 <<< (8 * (a % 4))) ((1 : BitVec 4) <<< (a % 4)))]

/-- `HostReadMB(a)`: one word read; the byte is lane `a mod 4` (R66, R71). -/
def hostReadMb (a : Nat) : List Move := [readAt (0x1000 + a)]

/-- `HostReadDG(k)`: one word read; the byte is lane `k mod 4` (R66, R70). -/
def hostReadDg (k : Fin 64) : List Move := [readAt (0x0040 + k.val)]

/-- `HostReadH(k)`: two word reads (R66, R69). -/
def hostReadH (k : Fin 8) : List Move := [readAt (0x0080 + 8 * k.val), readAt (0x0080 + 8 * k.val + 4)]

/-- `CLRP Bd`: the sentinel into pair `d`, `d <= 14`; a host action (R104). -/
def clearPair (d : Reg) : List Move := hostWriteB d 0 ++ hostWriteB (d + 1) 0

end Sys2Proof.Machine
end

