-- ==== Sys2Proof/Safety.lean ====
section
/-! DEFINITION. What the machine keeps: the invariant of every step, in the spec's own words (10_state R29 to
R38, 20_memory R79, 60_exceptions R281, R282), and what a safe run is. -/

namespace Sys2Proof.Machine

/-- The invariant: true after reset, kept by every step. -/
structure State.Inv (s : State) : Prop where
  /-- MB has its canonical form (log entry 5). -/
  canonical : s.mb.wf = true
  /-- MB lists no byte beyond `MSG_CAP` (20_memory R61). -/
  bounded : s.mb.below s.config.msgCap = true
  /-- A command in execution was accepted with ERR = 0, and acceptance cleared DONE (R28, R282). -/
  busyClear : s.busy = true → s.err = .none ∧ s.done = false
  /-- DONE and an error are never both recorded (60_exceptions R289). -/
  doneClear : s.done = true → s.err = .none
  /-- PLEN is 0 in None and Initialized, and no block is counted there (R32, R33). -/
  noMessage : s.hs = .none ∨ s.hs = .initialized → s.plen = 0 ∧ s.blk = 0
  /-- In Padded no block has been compressed and there is one to compress (R35). -/
  paddedStart : s.hs = .padded → s.blk = 0 ∧ s.plen ≠ 0
  /-- In Processing at least one block has been compressed (R35). -/
  processingStarted : s.hs = .processing → s.blk ≠ 0
  /-- In Finalized every block has been compressed (R35, R176). -/
  finalizedWhole : s.hs = .finalized → s.blockOffset = s.plen.toNat
  /-- PLEN is a multiple of the variant's block size (R32). -/
  wholeBlocks : blockBytes s.hv ∣ s.plen.toNat
  /-- The padded message lies in MB (20_memory R79). -/
  capacity : s.plen.toNat ≤ s.config.msgCap
  /-- `BLK * BS <= PLEN` (R33). -/
  progress : s.blockOffset ≤ s.plen.toNat
  /-- In a hash context of a 32-bit variant every word of H is a 32-bit value (R37). -/
  narrowWords : s.hs ≠ .none → s.hv ≠ .v64 → ∀ k : Fin 8, (s.h[k]).toNat < 2 ^ 32
  /-- In a hash context of V20 the words `H[5..7]` are 0 (R37). -/
  unusedWords : s.hs ≠ .none → s.hv = .v20 → ∀ k : Fin 8, 5 ≤ k.val → s.h[k] = 0
  /-- H_INIT clears DG and nothing writes it before H_FINAL (R38). -/
  digestClear : s.hs = .initialized ∨ s.hs = .padded ∨ s.hs = .processing → s.dg = Vector.replicate 64 0
  /-- In Finalized DG holds the digest of H, big-endian, and 0 after it (R38). -/
  digestHeld : s.hs = .finalized → s.dg = digestBuffer (serialize s.hv s.h)

/-- A safe state: the next step answers a next state, not a stop. -/
def State.Safe (s : State) : Prop := ∃ t, step s = .next t

/-- The machine runs one command: it is in execution and the engine moves next, with `rest` to come. -/
def State.EngineTurn (s : State) (rest : List Move) : Prop :=
  s.busy = true ∧ (s.schedule = .engine :: rest ∨ (s.schedule = [] ∧ rest = []))

end Sys2Proof.Machine
end

