-- ==== Sys2Proof/Certificates/Slice0/Obligations.lean ====
section
/-! DEFINITION. The statements for the provers, each from the rules its docstring names. The first part is
the vocabulary they share. -/

open Sys2Proof Sys2Proof.Machine

namespace Sys2Proof.Claims

/-- `t` is the next state of a command that ended in error `e` from `s`: ERR and BUSY, nothing else (R281). -/
def ErrorRecord (e : ErrorCode) (s t : State) : Prop := t = { s with err := e, busy := false }

/-- `t` completes a MAU or control command from `s`: `B[rd]` holds `v`, every other register is as before, and
nothing else of the state has changed but Z, BUSY and DONE (R119). -/
def RegisterWritten (rd : Reg) (v : Nat) (s t : State) : Prop :=
  t.unsignedB rd = v ∧ (∀ i, i ≠ rd → t.readB i = s.readB i) ∧ (∀ a, t.mb.read a = s.mb.read a) ∧
  t = { s with b := t.b, z := t.z, busy := false, done := true }

/-- `t` completes an ECU command from `s`: `PT(rd)` holds `p`, INF says whether it is the sentinel, every other
register is as before, and nothing else of the state has changed but BUSY and DONE (R25, R119). -/
def PairWritten (rd : Reg) (p : Point) (s t : State) : Prop :=
  t.readPair rd = p ∧ t.inf = decide (p = ⟨0, 0⟩) ∧ (∀ i, i ≠ rd → i ≠ rd + 1 → t.readB i = s.readB i) ∧
  (∀ a, t.mb.read a = s.mb.read a) ∧
  t = { s with b := t.b, inf := t.inf, busy := false, done := true }

/-- The state of the hash context, MLEN and MB, taken from another state (R318). -/
def withHashOf (s u : State) : State :=
  { s with mlen := u.mlen, plen := u.plen, blk := u.blk, hs := u.hs, hv := u.hv, h := u.h, dg := u.dg, mb := u.mb }

/-- The big registers and the flags, taken from another state (R318). -/
def withRegistersOf (s u : State) : State := { s with b := u.b, z := u.z, inf := u.inf }

/-- HAZ and the interrupt enables, taken from another state (R318). -/
def withHostBitsOf (s u : State) : State := { s with haz := u.haz, ieDone := u.ieDone, ieErr := u.ieErr }

/-- The same answer with its next state changed by `f`. -/
def mapNext (f : State → State) : Answer → Answer
  | .next t => .next (f t)
  | .fault r => .fault r
  | .refused r => .refused r

/-- Commands performed one after the other, each on the state the one before left. -/
def perform (cmds : List Instr) (s : State) : Answer :=
  match cmds with
  | [] => .next s
  | i :: rest =>
    match exec i s with
    | .next t => perform rest t
    | .fault r => .fault r
    | .refused r => .refused r

/-- The hash commands (42_hash R169). -/
def isHash : Instr → Bool
  | .hInit _ => true
  | .hPad => true
  | .hCompress => true
  | .hFinal => true
  | .hDigest _ => true
  | _ => false

/-- The table of R169: the next HS, or none for E_HSTATE. `all` says that every block is compressed. -/
def hashTransition (i : Instr) (hs : HashState) (all : Bool) : Option HashState :=
  match i, hs with
  | .hInit _, _ => some .initialized
  | .hDigest _, _ => some .finalized
  | .hPad, .initialized => some .padded
  | .hCompress, .padded => some .processing
  | .hCompress, .processing => if all then none else some .processing
  | .hFinal, .processing => if all then some .finalized else none
  | _, _ => none

/-- The table of R284: the first check of a legal command that fails, if one does. -/
def errorOf (i : Instr) (s : State) : Option ErrorCode :=
  let modulus (rm : Reg) (least : Nat) : Option ErrorCode :=
    if (s.readB rm).toNat < least then some .modulus else none
  let tooLong (v : Variant) : Bool :=
    decide (s.config.msgCap < s.mlen.toNat ∨ s.config.msgCap < paddedLength v s.mlen.toNat)
  let out (p : Nat) (regs : List Reg) : Option ErrorCode :=
    if ∃ r ∈ regs, p ≤ (s.readB r).toNat then some .range else none
  match i with
  | .nop => none
  | .ldc _ _ => none
  | .reduce _ _ rm _ => modulus rm 1
  | .invert _ _ rm => modulus rm 2
  | .modexp _ _ _ rm => modulus rm 1
  | .modadd _ _ _ rm => modulus rm 1
  | .modsub _ _ _ rm => modulus rm 1
  | .modmul _ _ _ rm => modulus rm 1
  | .hInit _ => none
  | .hPad => if s.hs ≠ .initialized then some .hstate else if tooLong s.hv then some .msglen else none
  | .hCompress =>
    if s.hs ≠ .padded ∧ s.hs ≠ .processing then some .hstate
    else if s.plen.toNat ≤ s.blk.toNat * blockBytes s.hv then some .hstate else none
  | .hFinal =>
    if s.hs ≠ .processing ∨ s.blk.toNat * blockBytes s.hv ≠ s.plen.toNat then some .hstate else none
  | .hDigest v => if tooLong v then some .msglen else none
  | .wAdd _ ra rb => out Config.w.prime [ra, ra + 1, rb, rb + 1]
  | .wDbl _ ra => out Config.w.prime [ra, ra + 1]
  | .wMul _ ra _ => out Config.w.prime [ra, ra + 1]
  | .eAdd _ ra rb => out Config.e.prime [ra, ra + 1, rb, rb + 1]
  | .eMul _ ra _ => out Config.e.prime [ra, ra + 1]

/-- `a mod p` for an integer of either sign (R11). -/
def residue (a : Int) (p : Nat) : Nat := (a % (p : Int)).toNat

/-- CP's inversion formula `a^(p-2) mod p` (R132). -/
def fermat (a p : Nat) : Nat := a ^ (p - 2) % p

/-- `negate((x, y)) = (x, -y)` on the W curve (R207). -/
def wNegate (q : Point) : Point := ⟨q.x, residue (-(q.y : Int)) Config.w.prime⟩

/-- `negate((x, y)) = (-x, y)` on the E curve (R236). -/
def eNegate (q : Point) : Point := ⟨residue (-(q.x : Int)) Config.e.prime, q.y⟩

/-- The accumulator and the running point after the bits `0 .. n-1` of `k` have been scanned (R206, R235). -/
def scanBits (add : Point → Point → Point) (dbl : Point → Point) (base : Point) (k n : Nat) : Point × Point :=
  match n with
  | 0 => (⟨0, 0⟩, base)
  | n + 1 =>
    let before := scanBits add dbl base k n
    (if k.testBit n then add before.1 before.2 else before.1, dbl before.2)

/-- The word access of the host is the next move, with `rest` to come after it. -/
def HostTurn (s : State) (a : BusAccess) (rest : List Move) : Prop := s.schedule = .bus a :: rest

/-- The two hash-word recurrences of R172 for words `W[0 .. n-1]`, with the given message words first. -/
def ScheduleOf {w : Nat} (block words : List (BitVec w)) (n : Nat)
    (next : (Nat → BitVec w) → Nat → BitVec w) : Prop :=
  words.length = n ∧ (∀ t, t < 16 → words.getD t 0 = block.getD t 0) ∧
  ∀ t, 16 ≤ t → t < n → words.getD t 0 = next (fun j => words.getD j 0) t

/-- The rounds of R175 with the functions of R163 or R165 given as arguments: eight sequences of working
variables, their first values `h`, and what `n` rounds return. -/
def RoundsOf {w : Nat} (bsig0 bsig1 : BitVec w → BitVec w) (ks h words result : List (BitVec w)) (n : Nat) : Prop :=
  ∃ a b c d e f g i : Nat → BitVec w,
    [a 0, b 0, c 0, d 0, e 0, f 0, g 0, i 0] = (List.range 8).map (fun j => h.getD j 0) ∧
    (∀ t, t < n →
      let t1 := i t + bsig1 (e t) + ((e t &&& f t) ^^^ (~~~(e t) &&& g t)) + ks.getD t 0 + words.getD t 0
      let t2 := bsig0 (a t) + ((a t &&& b t) ^^^ (a t &&& c t) ^^^ (b t &&& c t))
      a (t + 1) = t1 + t2 ∧ b (t + 1) = a t ∧ c (t + 1) = b t ∧ d (t + 1) = c t ∧
      e (t + 1) = d t + t1 ∧ f (t + 1) = e t ∧ g (t + 1) = f t ∧ i (t + 1) = g t) ∧
    result = [a n, b n, c n, d n, e n, f n, g n, i n]

end Sys2Proof.Claims

open Sys2Proof.Claims

/-! ## Encoding -/

/-- R105: the worked encodings and the illegal words, each decoded. -/
def Obligations.WorkedEncodingsDecode : Prop :=
  decode 0x10000100 = .ok (.reduce 0 0 1 false) ∧
  decode 0x10250101 = .ok (.reduce 2 5 1 true) ∧
  decode 0x11200100 = .ok (.invert 2 0 1) ∧
  decode 0x15302100 = .ok (.modmul 3 0 2 1) ∧
  decode 0x01100001 = .ok (.ldc 1 .wn) ∧
  decode 0x01300013 = .ok (.ldc 3 .egy) ∧
  decode 0x20000001 = .ok (.hInit .v32) ∧
  decode 0x24000002 = .ok (.hDigest .v64) ∧
  decode 0x32420000 = .ok (.wMul 4 2 0) ∧
  decode 0x3066C000 = .ok (.wAdd 6 6 12) ∧
  decode 0x31200000 = .ok (.wDbl 2 0) ∧
  decode 0x42420000 = .ok (.eMul 4 2 0) ∧
  decode 0x00000001 = .error .reservedBits ∧
  decode 0x20000003 = .error .variantNumber ∧
  decode 0x310F0000 = .error .pairIndex ∧
  decode 0x41024000 = .error .unassignedOpcode ∧
  decode 0x01000005 = .error .constantIndex ∧
  decode 0x11201100 = .error .reservedBits

/-- R91, R92, R103: the word of a well-formed command decodes to that command, every operand at every value. -/
def Obligations.DecodeOfEncode : Prop := ∀ i : Instr, i.wf = true → decode (encode i) = .ok i

/-- R98, R99: a word has at most one meaning and no bit of it is ignored: a word that decodes is the word of
the command it decodes to, and that command is well-formed. -/
def Obligations.EncodeOfDecode : Prop :=
  ∀ (w : Word) (i : Instr), decode w = .ok i → i.wf = true ∧ encode i = w

/-- R96: a word decodes to a command of a row exactly when `w AND mask = match` and the "also" condition of that
row hold, and a word no row accepts is illegal. -/
def Obligations.DecoderIsOpcodeMap : Prop :=
  (∀ r ∈ opcodeMap, ∀ w : Word, r.accepts w = true ↔ ∃ i, decode w = .ok i ∧ i.mnemonic = r.mnemonic) ∧
  (∀ w : Word, (∀ r ∈ opcodeMap, r.accepts w = false) → ∃ e, decode w = .error e)

/-! ## The step of the machine -/

/-- R119, R83: when a command is in execution and the engine moves next, the step is the meaning of the command
its word decodes to, on the state with only that move taken off the schedule. -/
def Obligations.StepRunsDecodedCommand : Prop :=
  ∀ (s : State) (rest : List Move) (i : Instr),
    s.EngineTurn rest → decode s.cmd = .ok i → step s = exec i { s with schedule := rest }

/-- R95, R99: an illegal word, when executed, raises E_ILLEGAL and does nothing else. -/
def Obligations.IllegalWordRaises : Prop :=
  ∀ (s : State) (rest : List Move) (e : Reject),
    s.EngineTurn rest → decode s.cmd = .error e →
    step s = .next { s with schedule := rest, err := .illegal, busy := false }

/-- R312: nothing executes until the host writes CMD: with no command in execution and nothing scheduled the
state stays as it is, at reset in particular. -/
def Obligations.IdleEngineStays : Prop :=
  (∀ s : State, s.busy = false → s.schedule = [] → step s = .next s) ∧ step State.reset = .next State.reset

/-- The invariant of Safety.lean (R28 to R38, R79, R289) holds after reset. -/
def Obligations.ResetMeetsInvariant : Prop := State.reset.Inv

/-- The invariant of Safety.lean (R28 to R38, R79, R289) is kept by every step: of the host, the engine and the
reset input. -/
def Obligations.StepKeepsInvariant : Prop := ∀ s t : State, s.Inv → step s = .next t → t.Inv

/-- R280, R321: no state that meets the invariant stops the machine: every command ends in a next state, a
completion or a command error. -/
def Obligations.StepNeverStops : Prop := ∀ s : State, s.Inv → s.Safe

/-- R321: BUSY always returns to 0: after one step for each scheduled move and one more the schedule is empty and
the engine is idle. -/
def Obligations.EngineReturnsToIdle : Prop :=
  ∀ s : State, s.Inv → ∃ t : State,
    Host.Core.run Sys2Proof.core (s.schedule.length + 1) s = .next t ∧ t.schedule = [] ∧ t.busy = false

/-! ## Commands in general -/

/-- R281: a command completes wholly or has no effect but the error code: from an accepted state every next state
either has BUSY = 0, DONE = 1 and no error, or is the error record and nothing else. -/
def Obligations.CommandWholeOrErrorRecord : Prop :=
  ∀ (i : Instr) (s t : State), s.busy = true → s.err = .none → s.done = false → exec i s = .next t →
    (t.busy = false ∧ t.done = true ∧ t.err = .none) ∨
    (t.err ≠ .none ∧ ErrorRecord t.err s t ∧ t.done = false)

/-- R284: the errors of every command in the order of the checks: an illegal word E_ILLEGAL; a legal command the first
error whose check fails, and it completes exactly when no check fails. -/
def Obligations.ErrorsInOrder : Prop :=
  (∀ (s : State) (e : Reject), decode s.cmd = .error e →
    ∃ t, runCommand s = .next t ∧ ErrorRecord .illegal s t) ∧
  (∀ (i : Instr) (s : State), decode s.cmd = .ok i → s.Inv →
    runCommand s = exec i s ∧
    (∀ e, errorOf i s = some e → ∃ t, exec i s = .next t ∧ ErrorRecord e s t) ∧
    (errorOf i s = none → ∃ t, exec i s = .next t ∧ t.busy = false ∧ t.done = true ∧ t.err = s.err))

/-- R100: a pair command with index 15 in a pair position is illegal, not wrapped to `B[0]`: its word does not
decode, and its meaning raises E_ILLEGAL (log entry 11). -/
def Obligations.PairIndexFifteenIllegal : Prop :=
  ∀ i : Instr, i.wf = false →
    (∀ s : State, exec i s = .next { s with err := .illegal, busy := false }) ∧ decode (encode i) = .error .pairIndex

/-- R28, R30, R31: no command writes what belongs to the host: CMD, the enables, HAZ, MLEN; nor the model's own
fields. -/
def Obligations.CommandsLeaveHostFields : Prop :=
  ∀ (i : Instr) (s t : State), exec i s = .next t →
    t.cmd = s.cmd ∧ t.ieDone = s.ieDone ∧ t.ieErr = s.ieErr ∧ t.haz = s.haz ∧ t.mlen = s.mlen ∧
    t.config = s.config ∧ t.schedule = s.schedule ∧ t.readData = s.readData ∧ t.draws = s.draws

/-- R318: the MAU, ECU and control commands do not depend on the hash context; the hash commands do not depend on
B, Z or INF; no command depends on HAZ, the enables or DONE. -/
def Obligations.NoHiddenDependence : Prop :=
  (∀ (i : Instr) (s u : State), isHash i = false →
    exec i (withHashOf s u) = mapNext (fun t => withHashOf t u) (exec i s)) ∧
  (∀ (i : Instr) (s u : State), isHash i = true →
    exec i (withRegistersOf s u) = mapNext (fun t => withRegistersOf t u) (exec i s)) ∧
  (∀ (i : Instr) (s u : State),
    exec i (withHostBitsOf s u) = mapNext (fun t => withHostBitsOf t u) (exec i s)) ∧
  (∀ (i : Instr) (s : State) (d : Bool),
    mapNext (fun t => { t with done := false }) (exec i { s with done := d }) =
      mapNext (fun t => { t with done := false }) (exec i s))

/-! ## Control commands -/

/-- R120: NOP sets DONE, clears BUSY and changes nothing else; its word is 0x00000000 and any of bits [23:0] makes
it illegal. -/
def Obligations.NopSetsDoneOnly : Prop :=
  (∀ s : State, exec .nop s = .next { s with busy := false, done := true }) ∧
  encode .nop = 0x00000000 ∧
  ∀ w : Word, fieldOp w = 0x00 → w ≠ 0 → decode w = .error .reservedBits

/-- R121: LDC writes the ROM constant, below 2^256, to `B[rd]`, with no flag; other words of its opcode are
illegal; `LDC B1, WN` loads the value the rule prints. -/
def Obligations.LdcLoadsConstant : Prop :=
  (∀ (rd : Reg) (c : ConstName) (s : State), romValue c < 2 ^ 256 ∧
    ∃ t, exec (.ldc rd c) s = .next t ∧ RegisterWritten rd (romValue c) s t ∧ t.z = s.z) ∧
  (∀ w : Word, fieldOp w = 0x01 →
    (bits w 19 8 ≠ 0 ∨ fieldFn w ∉ [0x00, 0x01, 0x02, 0x03, 0x04, 0x10, 0x11, 0x12, 0x13, 0x14]) →
    ∃ e, decode w = .error e) ∧
  encode (.ldc 1 .wn) = 0x01100001 ∧
  romValue .wn = 0xFFFFFFFFFFFFFFFFFFFFFFFFFFFFFFFEBAAEDCE6AF48A03BBFD25E8CD0364141

/-- R62, R200, R230: the ten constants of the ROM by index, each below 2^256, no other index, with the relations
between them that R200 and R230 give as checks. -/
def Obligations.RomHoldsCurveConstants : Prop :=
  (∀ c : ConstName, romValue c < 2 ^ 256) ∧
  (∀ n : Nat, n ∉ [0x00, 0x01, 0x02, 0x03, 0x04, 0x10, 0x11, 0x12, 0x13, 0x14] → ConstName.ofIndex n = none) ∧
  ConstName.ofIndex 0x00 = some .wp ∧ romValue .wp = 2 ^ 256 - 2 ^ 32 - 977 ∧ romValue .wp % 4 = 3 ∧
  ConstName.ofIndex 0x01 = some .wn ∧
  romValue .wn = 0xFFFFFFFFFFFFFFFFFFFFFFFFFFFFFFFEBAAEDCE6AF48A03BBFD25E8CD0364141 ∧
  ConstName.ofIndex 0x02 = some .wgx ∧
  romValue .wgx = 0x79BE667EF9DCBBAC55A06295CE870B07029BFCDB2DCE28D959F2815B16F81798 ∧
  ConstName.ofIndex 0x03 = some .wgy ∧
  romValue .wgy = 0x483ADA7726A3C4655DA4FBFC0E1108A8FD17B448A68554199C47D08FFB10D4B8 ∧
  ConstName.ofIndex 0x04 = some .wb ∧ romValue .wb = 7 ∧
  romValue .wgy ^ 2 % romValue .wp = (romValue .wgx ^ 3 + romValue .wb) % romValue .wp ∧
  ConstName.ofIndex 0x10 = some .ep ∧ romValue .ep = 2 ^ 255 - 19 ∧
  ConstName.ofIndex 0x11 = some .el ∧ romValue .el = 2 ^ 252 + 27742317777372353535851937790883648493 ∧
  ConstName.ofIndex 0x12 = some .egx ∧
  romValue .egx = 0x216936D3CD6E53FEC0A4E231FDD6DC5C692CC7609525A7B2C9562D608F25D51A ∧
  ConstName.ofIndex 0x13 = some .egy ∧
  romValue .egy = 0x6666666666666666666666666666666666666666666666666666666666666658 ∧
  5 * romValue .egy % romValue .ep = 4 ∧
  ConstName.ofIndex 0x14 = some .ed ∧
  romValue .ed = 0x52036CEE2B6FFE738CC740797779E89800700A4D4141D8AB75EB4DCA135978A3 ∧
  (romValue .ed * 121666 + 121665) % romValue .ep = 0 ∧
  (romValue .egy ^ 2) % romValue .ep =
    (romValue .egx ^ 2 + 1 + romValue .ed * romValue .egx ^ 2 * romValue .egy ^ 2) % romValue .ep

/-! ## Modular arithmetic unit -/

/-- R134, R131: REDUCE writes the unique `r` with `0 <= r < m` and `a - r` a multiple of `m`, `a` the register
read unsigned or, for REDUCE.S, in two's complement; Z says whether it is 0; a modulus of 0 is E_MODULUS; a word
of the opcode with `rb` or `fn[7:1]` not zero is illegal. -/
def Obligations.ReduceIsTrueModulo : Prop :=
  (∀ (rd ra rm : Reg) (signed : Bool) (s : State),
    let m := (s.readB rm).toNat
    let v := (s.readB ra).toNat
    let a : Int := if signed = true ∧ 2 ^ 511 ≤ v then (v : Int) - 2 ^ 512 else v
    (m = 0 → ∃ t, exec (.reduce rd ra rm signed) s = .next t ∧ ErrorRecord .modulus s t) ∧
    (m ≠ 0 → ∃ (r : Nat) (t : State), r < m ∧ (m : Int) ∣ a - r ∧
      exec (.reduce rd ra rm signed) s = .next t ∧ RegisterWritten rd r s t ∧ t.z = decide (r = 0))) ∧
  (∀ w : Word, fieldOp w = 0x10 → bits w 15 12 ≠ 0 ∨ bits w 7 1 ≠ 0 → decode w = .error .reservedBits)

/-- R135: INVERT writes `a^(m-2) mod m`, for every modulus of at least 2, prime or not; Z says whether it is 0; a
smaller modulus is E_MODULUS; a word of the opcode with `rb` or `fn` not zero is illegal. -/
def Obligations.InvertIsFermatPower : Prop :=
  (∀ (rd ra rm : Reg) (s : State),
    let m := (s.readB rm).toNat
    let r := (s.readB ra).toNat ^ (m - 2) % m
    (m < 2 → ∃ t, exec (.invert rd ra rm) s = .next t ∧ ErrorRecord .modulus s t) ∧
    (2 ≤ m → ∃ t, exec (.invert rd ra rm) s = .next t ∧ RegisterWritten rd r s t ∧ t.z = decide (r = 0))) ∧
  (∀ w : Word, fieldOp w = 0x11 → bits w 15 12 ≠ 0 ∨ bits w 7 0 ≠ 0 → decode w = .error .reservedBits)

/-- R136, R133: MODEXP writes `a^b mod m`, the exponent the full 512-bit register, with `b^0 = 1`; Z says whether
it is 0; a modulus of 0 is E_MODULUS; a word of the opcode with `fn` not zero is illegal. -/
def Obligations.ModexpIsPower : Prop :=
  (∀ (rd ra rb rm : Reg) (s : State),
    let m := (s.readB rm).toNat
    let r := (s.readB ra).toNat ^ (s.readB rb).toNat % m
    (m = 0 → ∃ t, exec (.modexp rd ra rb rm) s = .next t ∧ ErrorRecord .modulus s t) ∧
    (m ≠ 0 → ∃ t, exec (.modexp rd ra rb rm) s = .next t ∧ RegisterWritten rd r s t ∧ t.z = decide (r = 0))) ∧
  (∀ w : Word, fieldOp w = 0x12 → bits w 7 0 ≠ 0 → decode w = .error .reservedBits)

/-- R137, R138, R139: MODADD, MODSUB and MODMUL write the residue of the exact sum, difference and product; Z says
whether it is 0; a modulus of 0 is E_MODULUS; a word of these opcodes with `fn` not zero is illegal. -/
def Obligations.ModAddSubMulResidues : Prop :=
  (∀ (rd ra rb rm : Reg) (s : State),
    let m := (s.readB rm).toNat
    let a := (s.readB ra).toNat
    let b := (s.readB rb).toNat
    (m = 0 →
      (∃ t, exec (.modadd rd ra rb rm) s = .next t ∧ ErrorRecord .modulus s t) ∧
      (∃ t, exec (.modsub rd ra rb rm) s = .next t ∧ ErrorRecord .modulus s t) ∧
      (∃ t, exec (.modmul rd ra rb rm) s = .next t ∧ ErrorRecord .modulus s t)) ∧
    (m ≠ 0 →
      (∃ t, exec (.modadd rd ra rb rm) s = .next t ∧ RegisterWritten rd ((a + b) % m) s t ∧
        t.z = decide ((a + b) % m = 0)) ∧
      (∃ (r : Nat) (t : State), r < m ∧ (m : Int) ∣ ((a : Int) - b) - r ∧
        exec (.modsub rd ra rb rm) s = .next t ∧ RegisterWritten rd r s t ∧ t.z = decide (r = 0)) ∧
      (∃ t, exec (.modmul rd ra rb rm) s = .next t ∧ RegisterWritten rd (a * b % m) s t ∧
        t.z = decide (a * b % m = 0)))) ∧
  (∀ w : Word, fieldOp w = 0x13 ∨ fieldOp w = 0x14 ∨ fieldOp w = 0x15 → bits w 7 0 ≠ 0 →
    decode w = .error .reservedBits)

/-- R132, R141: `invert(a, m)` is `a^(m-2) mod m` for every `m >= 2`, a multiplicative inverse when CP's precondition
holds, and outside it the values of the table: 0 for a multiple of a prime above 2, 1 for `m = 2`, the power for a
composite modulus, E_MODULUS for a modulus below 2. -/
def Obligations.InvertInsideAndOutsidePrecondition : Prop :=
  (∀ a m : Nat, 2 ≤ m → Sys2Proof.Machine.invert a m = a ^ (m - 2) % m) ∧
  (∀ a m : Nat, m.Prime → a % m ≠ 0 → a * Sys2Proof.Machine.invert a m % m = 1) ∧
  (∀ a m : Nat, m.Prime → 2 < m → a % m = 0 → Sys2Proof.Machine.invert a m = 0) ∧
  (∀ a : Nat, Sys2Proof.Machine.invert a 2 = 1) ∧
  Sys2Proof.Machine.invert 3 8 = 1 ∧ Sys2Proof.Machine.invert 2 8 = 0 ∧
  (∀ a m : Nat, 2 ≤ m → Sys2Proof.Machine.invert a m = Sys2Proof.Machine.invert (a % m) m) ∧
  (∀ (rd ra rm : Reg) (s : State), (s.readB rm).toNat < 2 →
    ∃ t, exec (.invert rd ra rm) s = .next t ∧ ErrorRecord .modulus s t)

/-- R25, R22, R61: the frame of NOP, LDC and the MAU commands, in completion and in error: every register but the
destination, INF, the hash context, MLEN and every byte of MB are as before; Z too for NOP and LDC. -/
def Obligations.ControlAndMauFrame : Prop :=
  ∀ (i : Instr) (s t : State) (rd : Reg),
    (i = .nop ∨ (∃ c, i = .ldc rd c) ∨ (∃ ra rm signed, i = .reduce rd ra rm signed) ∨
      (∃ ra rm, i = .invert rd ra rm) ∨ (∃ ra rb rm, i = .modexp rd ra rb rm) ∨
      (∃ ra rb rm, i = .modadd rd ra rb rm) ∨ (∃ ra rb rm, i = .modsub rd ra rb rm) ∨
      (∃ ra rb rm, i = .modmul rd ra rb rm)) →
    exec i s = .next t →
    (∀ k, k ≠ rd → t.readB k = s.readB k) ∧ (∀ a, t.mb.read a = s.mb.read a) ∧
    ((i = .nop ∨ ∃ c, i = .ldc rd c) → t.z = s.z) ∧ (i = .nop → t.b = s.b) ∧
    t = { s with b := t.b, z := t.z, busy := t.busy, done := t.done, err := t.err }

/-! ## Hash unit -/

/-- R168: PLEN is the smallest multiple of the block size that holds the message, 0x80 and the length field; the
padding is 0x80, NZ zero bytes and the big-endian bit length; with the examples of the rule. -/
def Obligations.PaddingIsSmallest : Prop :=
  (∀ (v : Variant) (len : Nat),
    let bs := blockBytes v
    let lf := lengthBytes v
    let p := paddedLength v len
    bs ∣ p ∧ len + 1 + lf ≤ p ∧ (∀ q, bs ∣ q → len + 1 + lf ≤ q → p ≤ q) ∧
    zeroCount v len = p - len - 1 - lf ∧ zeroCount v len < bs ∧
    (padding v len).length = p - len ∧
    (padding v len).getD 0 0 = 0x80 ∧
    (∀ j, j < zeroCount v len → (padding v len).getD (1 + j) 0 = 0) ∧
    (∀ j, j < lf → (padding v len).getD (1 + zeroCount v len + j) 0 = BitVec.ofNat 8 (8 * len / 256 ^ (lf - 1 - j)))) ∧
  paddedLength .v32 55 = 64 ∧ zeroCount .v32 55 = 0 ∧ paddedLength .v20 56 = 128 ∧ zeroCount .v20 56 = 63 ∧
  paddedLength .v64 111 = 128 ∧ zeroCount .v64 111 = 0 ∧ paddedLength .v64 112 = 256 ∧ zeroCount .v64 112 = 127

/-- R172: the sixteen message words are big-endian, and every later schedule word is the rule's function of four
earlier ones. -/
def Obligations.ScheduleRecurrence : Prop :=
  (∀ (v : Variant) (w : Nat) (mb : Memory) (base t : Nat), t < 16 →
    (messageWords w v mb base).getD t 0 =
      BitVec.ofNat w (beInt (mb.readBytes (base + t * wordBytes v) (wordBytes v)))) ∧
  (∀ block : List Word, block.length = 16 →
    ScheduleOf block (messageSchedule nextWord1 80 block) 80
      (fun x t => (x (t - 3) ^^^ x (t - 8) ^^^ x (t - 14) ^^^ x (t - 16)).rotateLeft 1)) ∧
  (∀ block : List Word, block.length = 16 →
    ScheduleOf block (messageSchedule (nextWord2 Config.v32) 64 block) 64
      (fun x t =>
        ((x (t - 2)).rotateRight 17 ^^^ (x (t - 2)).rotateRight 19 ^^^ x (t - 2) >>> 10) + x (t - 7) +
        ((x (t - 15)).rotateRight 7 ^^^ (x (t - 15)).rotateRight 18 ^^^ x (t - 15) >>> 3) + x (t - 16))) ∧
  (∀ block : List HashWord, block.length = 16 →
    ScheduleOf block (messageSchedule (nextWord2 Config.v64) 80 block) 80
      (fun x t =>
        ((x (t - 2)).rotateRight 19 ^^^ (x (t - 2)).rotateRight 61 ^^^ x (t - 2) >>> 6) + x (t - 7) +
        ((x (t - 15)).rotateRight 1 ^^^ (x (t - 15)).rotateRight 8 ^^^ x (t - 15) >>> 7) + x (t - 16)))

/-- R174, R161: the 80 rounds of V20 as recurrences of the five working variables. -/
def Obligations.TwentyByteRounds : Prop :=
  ∀ h words : List Word, words.length = 80 →
    ∃ a b c d e : Nat → Word,
      [a 0, b 0, c 0, d 0, e 0] = (List.range 5).map (fun j => h.getD j 0) ∧
      (∀ t, t < 80 →
        let f : Word :=
          if t ≤ 19 then (b t &&& c t) ||| (~~~(b t) &&& d t)
          else if 40 ≤ t ∧ t ≤ 59 then (b t &&& c t) ||| (b t &&& d t) ||| (c t &&& d t)
          else b t ^^^ c t ^^^ d t
        let k : Word :=
          if t ≤ 19 then 0x5A827999 else if t ≤ 39 then 0x6ED9EBA1 else if t ≤ 59 then 0x8F1BBCDC else 0xCA62C1D6
        a (t + 1) = (a t).rotateLeft 5 + f + e t + k + words.getD t 0 ∧ b (t + 1) = a t ∧
        c (t + 1) = (b t).rotateLeft 30 ∧ d (t + 1) = c t ∧ e (t + 1) = d t) ∧
      compress1 Config.v20 h words = [a 80, b 80, c 80, d 80, e 80]

/-- R175, R163, R165: the rounds of V32 and V64 as recurrences of the eight working variables. -/
def Obligations.EightWordRounds : Prop :=
  (∀ h words : List Word, words.length = 64 →
    RoundsOf
      (fun x => x.rotateRight 2 ^^^ x.rotateRight 13 ^^^ x.rotateRight 22)
      (fun x => x.rotateRight 6 ^^^ x.rotateRight 11 ^^^ x.rotateRight 25)
      Config.k32 h words (compress2 Config.v32 h words) 64) ∧
  (∀ h words : List HashWord, words.length = 80 →
    RoundsOf
      (fun x => x.rotateRight 28 ^^^ x.rotateRight 34 ^^^ x.rotateRight 39)
      (fun x => x.rotateRight 14 ^^^ x.rotateRight 18 ^^^ x.rotateRight 41)
      Config.k64 h words (compress2 Config.v64 h words) 80)

/-- R169: the hash state machine: every hash command in every hash state goes to the state of the table or raises
E_HSTATE; H_PAD and H_DIGEST can raise E_MSGLEN, which leaves HS; no other command changes HS. -/
def Obligations.HashStateMachine : Prop :=
  (∀ (i : Instr) (s : State), s.Inv → isHash i = true →
    match hashTransition i s.hs (decide (s.blk.toNat = s.plen.toNat / blockBytes s.hv)) with
    | none => ∃ t, exec i s = .next t ∧ ErrorRecord .hstate s t ∧ t.hs = s.hs
    | some hs =>
      (∃ t, exec i s = .next t ∧ t.hs = hs ∧ t.done = true ∧ t.err = s.err) ∨
      ((i = .hPad ∨ ∃ v, i = .hDigest v) ∧ ∃ t, exec i s = .next t ∧ ErrorRecord .msglen s t ∧ t.hs = s.hs)) ∧
  (∀ (i : Instr) (s t : State), isHash i = false → exec i s = .next t → t.hs = s.hs)

/-- R170: H_INIT, in every hash state, sets HV, `H` to the initial value with unused words 0, BLK, PLEN and DG to 0
and HS to Initialized, and changes nothing else. -/
def Obligations.HInitStartsContext : Prop :=
  (∀ (v : Variant) (s : State), ∃ t, exec (.hInit v) s = .next t ∧
    t.hv = v ∧ t.blk = 0 ∧ t.plen = 0 ∧ t.hs = .initialized ∧ (∀ k : Fin 64, t.dg[k] = 0) ∧
    t.h.toList.map BitVec.toNat =
      (match v with
        | .v20 => [0x67452301, 0xEFCDAB89, 0x98BADCFE, 0x10325476, 0xC3D2E1F0, 0, 0, 0]
        | .v32 => [0x6A09E667, 0xBB67AE85, 0x3C6EF372, 0xA54FF53A, 0x510E527F, 0x9B05688C, 0x1F83D9AB, 0x5BE0CD19]
        | .v64 => [0x6A09E667F3BCC908, 0xBB67AE8584CAA73B, 0x3C6EF372FE94F82B, 0xA54FF53A5F1D36F1,
            0x510E527FADE682D1, 0x9B05688C2B3E6C1F, 0x1F83D9ABFB41BD6B, 0x5BE0CD19137E2179]) ∧
    t = { s with hv := v, h := t.h, blk := 0, plen := 0, dg := t.dg, hs := .initialized, busy := false, done := true }) ∧
  (∀ w : Word, fieldOp w = 0x20 → bits w 23 2 ≠ 0 ∨ bits w 1 0 = 3 → ∃ e, decode w = .error e) ∧
  encode (.hInit .v20) = 0x20000000

/-- R171: H_PAD: E_HSTATE unless Initialized, then E_MSGLEN, else the padding in place, byte by byte, PLEN, BLK, HS,
and nothing else. -/
def Obligations.HPadPadsInPlace : Prop :=
  ∀ s : State, s.mb.wf = true →
    let len := s.mlen.toNat
    let p := paddedLength s.hv len
    let nz := zeroCount s.hv len
    (s.hs ≠ .initialized → ∃ t, exec .hPad s = .next t ∧ ErrorRecord .hstate s t) ∧
    (s.hs = .initialized → s.config.msgCap < len ∨ s.config.msgCap < p →
      ∃ t, exec .hPad s = .next t ∧ ErrorRecord .msglen s t) ∧
    (s.hs = .initialized → len ≤ s.config.msgCap → p ≤ s.config.msgCap →
      ∃ t, exec .hPad s = .next t ∧
        (∀ a, t.mb.read a =
          if a < len then s.mb.read a
          else if a = len then 0x80
          else if a < len + 1 + nz then 0
          else if a < p then BitVec.ofNat 8 (8 * len / 256 ^ (p - 1 - a))
          else s.mb.read a) ∧
        t.plen.toNat = p ∧
        t = { s with mb := t.mb, plen := t.plen, blk := 0, hs := .padded, busy := false, done := true })

/-- R173: H_COMPRESS: E_HSTATE unless Padded or Processing with a block left; else `H[i] <- H[i] + ws[i]` for the
words of the variant, `BLK + 1`, Processing, and nothing else: no word of H beyond the variant's, no byte of MB.
(The schedule and the rounds are ScheduleRecurrence, TwentyByteRounds and EightWordRounds.) -/
def Obligations.HCompressAddsRounds : Prop :=
  ∀ s : State, s.Inv →
    (s.hs ≠ .padded ∧ s.hs ≠ .processing ∨ s.plen.toNat ≤ s.blk.toNat * blockBytes s.hv →
      ∃ t, exec .hCompress s = .next t ∧ ErrorRecord .hstate s t) ∧
    (s.hs = .padded ∨ s.hs = .processing → s.blk.toNat * blockBytes s.hv < s.plen.toNat →
      let base := s.blk.toNat * blockBytes s.hv
      ∃ t, exec .hCompress s = .next t ∧ t.blk.toNat = s.blk.toNat + 1 ∧ t.hs = .processing ∧
        (∀ a, t.mb.read a = s.mb.read a) ∧
        t = { s with h := t.h, blk := t.blk, hs := .processing, busy := false, done := true } ∧
        (s.hv = .v20 → ∀ k : Fin 8, t.h[k] =
          if k.val < 5 then
            ((s.h[k].setWidth 32 +
              (compress1 Config.v20 (s.h.toList.map (fun x => x.setWidth 32))
                (messageSchedule nextWord1 80 (messageWords 32 .v20 s.mb base))).getD k.val 0 : Word)).setWidth 64
          else s.h[k]) ∧
        (s.hv = .v32 → ∀ k : Fin 8, t.h[k] =
          ((s.h[k].setWidth 32 +
            (compress2 Config.v32 (s.h.toList.map (fun x => x.setWidth 32))
              (messageSchedule (nextWord2 Config.v32) 64 (messageWords 32 .v32 s.mb base))).getD k.val 0 : Word)).setWidth 64) ∧
        (s.hv = .v64 → ∀ k : Fin 8, t.h[k] =
          s.h[k] +
            (compress2 Config.v64 s.h.toList
              (messageSchedule (nextWord2 Config.v64) 80 (messageWords 64 .v64 s.mb base))).getD k.val 0))

/-- R176: H_FINAL: E_HSTATE unless Processing with every block compressed; else DG is the words of H in big-endian
bytes, then 0, and HS is Finalized, and nothing else changes. -/
def Obligations.HFinalSerializesDigest : Prop :=
  ∀ s : State,
    (s.hs ≠ .processing ∨ s.blk.toNat * blockBytes s.hv ≠ s.plen.toNat →
      ∃ t, exec .hFinal s = .next t ∧ ErrorRecord .hstate s t) ∧
    (s.hs = .processing → s.blk.toNat * blockBytes s.hv = s.plen.toNat →
      ∃ t, exec .hFinal s = .next t ∧
        (∀ k : Fin 64, t.dg[k] =
          if k.val < digestBytes s.hv then
            BitVec.ofNat 8 ((s.h[k.val / wordBytes s.hv]?.getD 0).toNat / 256 ^ (wordBytes s.hv - 1 - k.val % wordBytes s.hv))
          else 0) ∧
        t = { s with dg := t.dg, hs := .finalized, busy := false, done := true })

/-- R177: H_DIGEST, in every hash state: E_MSGLEN with nothing changed, or exactly what H_INIT, H_PAD, H_COMPRESS
`PLEN / BS` times and H_FINAL do one after the other, ending Finalized with HV, PLEN and BLK as the rule says. -/
def Obligations.HDigestIsStepByStep : Prop :=
  ∀ (v : Variant) (s : State),
    let p := paddedLength v s.mlen.toNat
    (s.config.msgCap < s.mlen.toNat ∨ s.config.msgCap < p →
      ∃ t, exec (.hDigest v) s = .next t ∧ ErrorRecord .msglen s t) ∧
    (s.mlen.toNat ≤ s.config.msgCap → p ≤ s.config.msgCap →
      ∃ t, exec (.hDigest v) s = .next t ∧
        perform ([.hInit v, .hPad] ++ List.replicate (p / blockBytes v) .hCompress ++ [.hFinal]) s = .next t ∧
        t.hs = .finalized ∧ t.hv = v ∧ t.plen.toNat = p ∧ t.blk.toNat = p / blockBytes v)

/-- R178: the digest depends only on the variant, MLEN and the message bytes: two states that agree on them (and
on MSG_CAP), with a message that fits, padded, in MB, end with the same digest, hash words, counters and padded
message. (A message that does not fit is E_MSGLEN with nothing changed: HDigestIsStepByStep.) -/
def Obligations.DigestDependsOnMessageOnly : Prop :=
  ∀ (v : Variant) (s u s' u' : State), s.mb.wf = true → u.mb.wf = true → s.config = u.config → s.mlen = u.mlen →
    (∀ a, a < s.mlen.toNat → s.mb.read a = u.mb.read a) →
    s.mlen.toNat ≤ s.config.msgCap → paddedLength v s.mlen.toNat ≤ s.config.msgCap →
    exec (.hDigest v) s = .next s' → exec (.hDigest v) u = .next u' →
    s'.dg = u'.dg ∧ s'.h = u'.h ∧ s'.blk = u'.blk ∧ s'.plen = u'.plen ∧ s'.hs = u'.hs ∧ s'.hv = u'.hv ∧
    ∀ a, a < s'.plen.toNat → s'.mb.read a = u'.mb.read a

/-- R180 and vectors H1, H2 of 95_test_vectors: the digests of the empty message and of `abc`. -/
def Obligations.KnownDigests : Prop :=
  let after (s : State) (v : Variant) : Option Nat :=
    match exec (.hDigest v) s with
    | .next t => some (beInt (t.dg.toList.take (digestBytes v)))
    | _ => none
  let abc : State := { State.reset with mb := [(0, 0x61), (1, 0x62), (2, 0x63)], mlen := 3 }
  after State.reset .v20 = some 0xda39a3ee5e6b4b0d3255bfef95601890afd80709 ∧
  after State.reset .v32 = some 0xe3b0c44298fc1c149afbf4c8996fb92427ae41e4649b934ca495991b7852b855 ∧
  after State.reset .v64 = some 0xcf83e1357eefb8bdf1542850d66d8007d620e4050b5715dc83f4a921d36ce9ce47d0d13c5d85f2b0ff8318d2877eec2f63b931bd47417a81a538327af927da3e ∧
  after abc .v20 = some 0xa9993e364706816aba3e25717850c26c9cd0d89d ∧
  after abc .v32 = some 0xba7816bf8f01cfea414140de5dae2223b00361a396177a9cb410ff61f20015ad ∧
  after abc .v64 = some 0xddaf35a193617abacc417349ae20413112e6fa4e89a97ea20a9eeee64b55d39a2192992a274fc1a836ba3c23a3feebbd454d4423643ce80e2a9ac94fa54ca49f

/-- R22, R25, R61: the frame of the hash commands, in completion and in error: no register, no flag, not MLEN; every
byte of MB below MLEN and from the padded length on for H_PAD (of HV) and H_DIGEST (of its variant), every byte for
the others; and what each leaves of the hash context. -/
def Obligations.HashFrame : Prop :=
  ∀ (i : Instr) (s t : State), s.mb.wf = true → isHash i = true → exec i s = .next t →
    t.b = s.b ∧ t.z = s.z ∧ t.inf = s.inf ∧ t.mlen = s.mlen ∧
    (i = .hPad → ∀ a, a < s.mlen.toNat ∨ paddedLength s.hv s.mlen.toNat ≤ a → t.mb.read a = s.mb.read a) ∧
    (∀ v, i = .hDigest v → ∀ a, a < s.mlen.toNat ∨ paddedLength v s.mlen.toNat ≤ a → t.mb.read a = s.mb.read a) ∧
    ((∃ v, i = .hInit v) ∨ i = .hCompress ∨ i = .hFinal → ∀ a, t.mb.read a = s.mb.read a) ∧
    (i = .hPad ∨ i = .hFinal → t.h = s.h) ∧ (i = .hPad ∨ i = .hCompress → t.dg = s.dg) ∧
    (i = .hPad ∨ i = .hCompress ∨ i = .hFinal → t.hv = s.hv) ∧
    (i = .hCompress ∨ i = .hFinal → t.plen = s.plen) ∧ (i = .hFinal → t.blk = s.blk)

/-! ## Curve units -/

/-- R203, R233: the functions of the two curves, with `reduce` and `invert` written as residues and powers: the
Weierstrass doubling, the four cases of the Weierstrass sum in their order, and the Edwards sum: negation, sentinel
cases, formula. -/
def Obligations.CurveFormulas : Prop :=
  (∀ x y : Nat,
    let p := Config.w.prime
    let m := residue (3 * x * x * fermat (residue (2 * y) p) p) p
    let x3 := residue ((m : Int) * m - x - x) p
    wDouble Config.w ⟨x, y⟩ = ⟨x3, residue ((m : Int) * (x - x3) - y) p⟩) ∧
  (∀ x1 y1 x2 y2 : Nat,
    let p := Config.w.prime
    let m := residue (((y2 : Int) - y1) * fermat (residue ((x2 : Int) - x1) p) p) p
    let x3 := residue ((m : Int) * m - x1 - x2) p
    wSum Config.w ⟨x1, y1⟩ ⟨x2, y2⟩ =
      if x1 = x2 ∧ y1 = y2 then wDouble Config.w ⟨x1, y1⟩
      else if x1 = x2 ∧ y1 = residue (-(y2 : Int)) p then ⟨0, 0⟩
      else if x1 = 0 ∧ y1 = 0 then ⟨x2, y2⟩
      else if x2 = 0 ∧ y2 = 0 then ⟨x1, y1⟩
      else ⟨x3, residue ((m : Int) * (x1 - x3) - y1) p⟩) ∧
  (∀ x1 y1 x2 y2 : Nat,
    let p := Config.e.prime
    let t := residue (Config.e.coeff * x1 * x2 * y1 * y2) p
    let x3 := residue (((x1 : Int) * y2 + y1 * x2) * fermat (residue (1 + (t : Int)) p) p) p
    let y3 := residue (((y1 : Int) * y2 + x1 * x2) * fermat (residue (1 - (t : Int)) p) p) p
    eSum Config.e ⟨x1, y1⟩ ⟨x2, y2⟩ =
      if x2 = residue (-(x1 : Int)) p ∧ y2 = y1 then ⟨0, 0⟩
      else if x1 = 0 ∧ y1 = 0 then ⟨x2, y2⟩
      else if x2 = 0 ∧ y2 = 0 then ⟨x1, y1⟩
      else ⟨x3, y3⟩)

/-- R204: W_ADD: E_RANGE with nothing changed when a coordinate is not below WP; else `PT(rd)` holds the sum of the
old `PT(ra)` and `PT(rb)`, in whatever way the pairs overlap, and INF says whether it is the sentinel; other words
of the opcode are illegal. -/
def Obligations.WAddWritesSum : Prop :=
  (∀ (rd ra rb : Reg) (s : State), rd.val ≤ 14 → ra.val ≤ 14 → rb.val ≤ 14 →
    let p := s.readPair ra
    let q := s.readPair rb
    let wp := Config.w.prime
    (wp ≤ p.x ∨ wp ≤ p.y ∨ wp ≤ q.x ∨ wp ≤ q.y →
      ∃ t, exec (.wAdd rd ra rb) s = .next t ∧ ErrorRecord .range s t) ∧
    (p.x < wp → p.y < wp → q.x < wp → q.y < wp →
      ∃ t, exec (.wAdd rd ra rb) s = .next t ∧ PairWritten rd (wSum Config.w p q) s t)) ∧
  (∀ w : Word, fieldOp w = 0x30 →
    bits w 11 0 ≠ 0 ∨ bits w 23 20 = 15 ∨ bits w 19 16 = 15 ∨ bits w 15 12 = 15 → ∃ e, decode w = .error e)

/-- R205: W_DBL: E_RANGE with nothing changed when a coordinate is not below WP; else `PT(rd)` holds the double of
the old `PT(ra)`, and INF says whether it is the sentinel; other words of the opcode are illegal. -/
def Obligations.WDblWritesDouble : Prop :=
  (∀ (rd ra : Reg) (s : State), rd.val ≤ 14 → ra.val ≤ 14 →
    let p := s.readPair ra
    let wp := Config.w.prime
    (wp ≤ p.x ∨ wp ≤ p.y → ∃ t, exec (.wDbl rd ra) s = .next t ∧ ErrorRecord .range s t) ∧
    (p.x < wp → p.y < wp →
      ∃ t, exec (.wDbl rd ra) s = .next t ∧ PairWritten rd (wDouble Config.w p) s t)) ∧
  (∀ w : Word, fieldOp w = 0x31 →
    bits w 15 0 ≠ 0 ∨ bits w 23 20 = 15 ∨ bits w 19 16 = 15 → ∃ e, decode w = .error e)

/-- R206: W_MUL: E_RANGE with nothing changed when a coordinate of the base is not below WP; else `PT(rd)` holds the
accumulator after `bitlen(k)` iterations of double-and-add over the unreduced 512-bit scalar, for every scalar
register, and INF says whether it is the sentinel; other words of the opcode are illegal. -/
def Obligations.WMulIsDoubleAndAdd : Prop :=
  (∀ (rd ra rb : Reg) (s : State), rd.val ≤ 14 → ra.val ≤ 14 →
    let p := s.readPair ra
    let k := (s.readB rb).toNat
    let wp := Config.w.prime
    (wp ≤ p.x ∨ wp ≤ p.y → ∃ t, exec (.wMul rd ra rb) s = .next t ∧ ErrorRecord .range s t) ∧
    (p.x < wp → p.y < wp →
      ∃ t, exec (.wMul rd ra rb) s = .next t ∧
        PairWritten rd (scanBits (wSum Config.w) (wDouble Config.w) p k (bitLength k)).1 s t)) ∧
  (∀ w : Word, fieldOp w = 0x32 →
    bits w 11 0 ≠ 0 ∨ bits w 23 20 = 15 ∨ bits w 19 16 = 15 → ∃ e, decode w = .error e)

/-- R234: E_ADD: E_RANGE with nothing changed when a coordinate is not below EP; else `PT(rd)` holds the sum of the
old `PT(ra)` and `PT(rb)`, and INF says whether it is the sentinel; there is no E_DBL command. -/
def Obligations.EAddWritesSum : Prop :=
  (∀ (rd ra rb : Reg) (s : State), rd.val ≤ 14 → ra.val ≤ 14 → rb.val ≤ 14 →
    let p := s.readPair ra
    let q := s.readPair rb
    let ep := Config.e.prime
    (ep ≤ p.x ∨ ep ≤ p.y ∨ ep ≤ q.x ∨ ep ≤ q.y →
      ∃ t, exec (.eAdd rd ra rb) s = .next t ∧ ErrorRecord .range s t) ∧
    (p.x < ep → p.y < ep → q.x < ep → q.y < ep →
      ∃ t, exec (.eAdd rd ra rb) s = .next t ∧ PairWritten rd (eSum Config.e p q) s t)) ∧
  (∀ w : Word, fieldOp w = 0x40 →
    bits w 11 0 ≠ 0 ∨ bits w 23 20 = 15 ∨ bits w 19 16 = 15 ∨ bits w 15 12 = 15 → ∃ e, decode w = .error e) ∧
  (∀ w : Word, fieldOp w = 0x41 → decode w = .error .unassignedOpcode) ∧
  (∀ d a : Reg, pseudoEDbl d a = [.eAdd d a a])

/-- R235: E_MUL: E_RANGE with nothing changed when a coordinate of the base is not below EP; else `PT(rd)` holds the
accumulator after `bitlen(k)` iterations, the running point doubled by self-addition, and INF says whether it is
the sentinel; other words of the opcode are illegal. -/
def Obligations.EMulIsDoubleAndAdd : Prop :=
  (∀ (rd ra rb : Reg) (s : State), rd.val ≤ 14 → ra.val ≤ 14 →
    let p := s.readPair ra
    let k := (s.readB rb).toNat
    let ep := Config.e.prime
    (ep ≤ p.x ∨ ep ≤ p.y → ∃ t, exec (.eMul rd ra rb) s = .next t ∧ ErrorRecord .range s t) ∧
    (p.x < ep → p.y < ep →
      ∃ t, exec (.eMul rd ra rb) s = .next t ∧
        PairWritten rd (scanBits (eSum Config.e) (fun q => eSum Config.e q q) p k (bitLength k)).1 s t)) ∧
  (∀ w : Word, fieldOp w = 0x42 →
    bits w 11 0 ≠ 0 ∨ bits w 23 20 = 15 ∨ bits w 19 16 = 15 → ∃ e, decode w = .error e)

/-- R206, R235: the corner scalars: 0 gives the sentinel for every base, 1 gives the base, and the base (0, 0) gives
itself for every scalar, on both curves. -/
def Obligations.ScalarCornerCases : Prop :=
  (∀ p : Point, wProduct Config.w p 0 = ⟨0, 0⟩ ∧ eProduct Config.e p 0 = ⟨0, 0⟩) ∧
  (∀ p : Point, p.x < Config.w.prime → p.y < Config.w.prime → wProduct Config.w p 1 = p) ∧
  (∀ p : Point, p.x < Config.e.prime → p.y < Config.e.prime → eProduct Config.e p 1 = p) ∧
  (∀ k : Nat, wProduct Config.w ⟨0, 0⟩ k = ⟨0, 0⟩ ∧ eProduct Config.e ⟨0, 0⟩ k = ⟨0, 0⟩)

/-- R208, R209: the pairs CP says callers must not pass, on the W curve, for coordinates below WP: the rows of the
table of R209, the sentinel as identity and `P + (-P)` among them, and the sentinel as base of W_MUL. -/
def Obligations.WeierstrassDegeneratePairs : Prop :=
  let p := Config.w.prime
  wDouble Config.w ⟨0, 0⟩ = ⟨0, 0⟩ ∧ wSum Config.w ⟨0, 0⟩ ⟨0, 0⟩ = ⟨0, 0⟩ ∧
  (∀ k : Nat, wProduct Config.w ⟨0, 0⟩ k = ⟨0, 0⟩) ∧
  (∀ q : Point, q.x < p → q.y < p → wSum Config.w ⟨0, 0⟩ q = q ∧ wSum Config.w q ⟨0, 0⟩ = q) ∧
  (∀ q : Point, q.x < p → q.y < p → q.y ≠ 0 → wSum Config.w q (wNegate q) = ⟨0, 0⟩) ∧
  (∀ x : Nat, x < p → wDouble Config.w ⟨x, 0⟩ = ⟨residue (-2 * (x : Int)) p, 0⟩) ∧
  (∀ x : Nat, x < p → x ≠ 0 → wSum Config.w ⟨x, 0⟩ ⟨x, 0⟩ = ⟨residue (-2 * (x : Int)) p, 0⟩) ∧
  wSum Config.w ⟨5, 0⟩ ⟨5, 0⟩ = ⟨p - 10, 0⟩ ∧
  (∀ x y1 y2 : Nat, x < p → y1 < p → y2 < p → y1 ≠ y2 → y1 ≠ residue (-(y2 : Int)) p →
    (⟨x, y1⟩ : Point) ≠ ⟨0, 0⟩ → (⟨x, y2⟩ : Point) ≠ ⟨0, 0⟩ →
    wSum Config.w ⟨x, y1⟩ ⟨x, y2⟩ = ⟨residue (-2 * (x : Int)) p, residue (-(y1 : Int)) p⟩) ∧
  wSum Config.w ⟨1, 1⟩ ⟨2, 3⟩ = ⟨1, p - 1⟩ ∧
  wDouble Config.w ⟨1, 1⟩ =
    ⟨0x3FFFFFFFFFFFFFFFFFFFFFFFFFFFFFFFFFFFFFFFFFFFFFFFFFFFFFFFBFFFFF0C,
     0x1FFFFFFFFFFFFFFFFFFFFFFFFFFFFFFFFFFFFFFFFFFFFFFFFFFFFFFFDFFFFF86⟩

/-- R237: the pairs with `x = 0` and off the curve, on the E curve, for coordinates below EP: the rows of the table of
R237, the sentinel as identity and `P + (-P)` among them. -/
def Obligations.EdwardsDegeneratePairs : Prop :=
  let p := Config.e.prime
  eSum Config.e ⟨0, 0⟩ ⟨0, 0⟩ = ⟨0, 0⟩ ∧
  (∀ q : Point, q.x < p → q.y < p → eSum Config.e q ⟨0, 0⟩ = q ∧ eSum Config.e ⟨0, 0⟩ q = q) ∧
  (∀ q : Point, q.x < p → q.y < p → eSum Config.e q (eNegate q) = ⟨0, 0⟩) ∧
  (∀ q : Point, q.x < p → q.y < p → q.x ≠ 0 → eSum Config.e q ⟨0, 1⟩ = q) ∧
  (∀ y : Nat, eSum Config.e ⟨0, y⟩ ⟨0, y⟩ = ⟨0, 0⟩) ∧
  (∀ k : Nat, eProduct Config.e ⟨0, 1⟩ k = if k % 2 = 1 then ⟨0, 1⟩ else ⟨0, 0⟩) ∧
  eSum Config.e ⟨1, 2⟩ ⟨3, 4⟩ =
    ⟨0x43CE4E73C29DF0BA748CC73BAA7770799AF77037A7980D47152FD58362841723,
     0x4886452EDB98CE994593E907E8CC70FEC71A86409D7E41ECED557D355F1D1430⟩ ∧
  (∀ x1 y1 x2 y2 : Nat,
    ¬(x2 = residue (-(x1 : Int)) p ∧ y2 = y1) → (⟨x1, y1⟩ : Point) ≠ ⟨0, 0⟩ → (⟨x2, y2⟩ : Point) ≠ ⟨0, 0⟩ →
    let t := residue (Config.e.coeff * x1 * x2 * y1 * y2) p
    (residue (1 + (t : Int)) p = 0 → (eSum Config.e ⟨x1, y1⟩ ⟨x2, y2⟩).x = 0) ∧
    (residue (1 - (t : Int)) p = 0 → (eSum Config.e ⟨x1, y1⟩ ⟨x2, y2⟩).y = 0))

/-- R207, R236: the multiples of the two generators the rules print. -/
def Obligations.GeneratorMultiples : Prop :=
  let g : Point := ⟨Config.w.gx, Config.w.gy⟩
  let k : Point := ⟨Config.e.gx, Config.e.gy⟩
  wProduct Config.w g 2 =
    ⟨0xC6047F9441ED7D6D3045406E95C07CD85C778E4B8CEF3CA7ABAC09B95C709EE5,
     0x1AE168FEA63DC339A3C58419466CEAEEF7F632653266D0E1236431A950CFE52A⟩ ∧
  wProduct Config.w g 3 =
    ⟨0xF9308A019258C31049344F85F89D5229B531C845836F99B08601F113BCE036F9,
     0x388F7B0F632DE8140FE337E62A37F3566500A99934C2231B6CB9FD7584B8E672⟩ ∧
  wProduct Config.w g 5 =
    ⟨0x2F8BDE4D1A07209355B4A7250A5C5128E88B84BDDC619AB7CBA8D569B240EFE4,
     0xD8AC222636E5E3D6D4DBA9DDA6C9C426F788271BAB0D6840DCA87D3AA6AC62D6⟩ ∧
  wNegate g =
    ⟨0x79BE667EF9DCBBAC55A06295CE870B07029BFCDB2DCE28D959F2815B16F81798,
     0xB7C52588D95C3B9AA25B0403F1EEF75702E84BB7597AABE663B82F6F04EF2777⟩ ∧
  eProduct Config.e k 2 =
    ⟨0x36AB384C9F5A046C3D043B7D1833E7AC080D8E4515D7A45F83C5A14E2843CE0E,
     0x2260CDF3092329C21DA25EE8C9A21F5697390F51643851560E5F46AE6AF8A3C9⟩ ∧
  eProduct Config.e k 3 =
    ⟨0x67AE9C4A22928F491FF4AE743EDAC83A6343981981624886AC62485FD3F8E25C,
     0x1267B1D177EE69ABA126A18E60269EF79F16EC176724030402C3684878F5B4D4⟩ ∧
  eProduct Config.e k 5 =
    ⟨0x49FDA73EADE3587BFCEF7CF7D12DA5DE5C2819F93E1BE1A591409CC0322EF233,
     0x5F4825B298FEAE6FE02C6E148992466631282ECA89430B5D10D21F83D676C8ED⟩ ∧
  eNegate k =
    ⟨0x5E96C92C3291AC013F5B1DCE022923A396D3389F6ADA584D36A9D29F70DA2AD3,
     0x6666666666666666666666666666666666666666666666666666666666666658⟩

/-- R22, R25, R61: the frame of the ECU commands, in completion and in error: every register but the destination
pair, Z, the hash context, MLEN and every byte of MB are as before. -/
def Obligations.CurveFrame : Prop :=
  ∀ (i : Instr) (s t : State) (rd : Reg),
    ((∃ ra rb, i = .wAdd rd ra rb) ∨ (∃ ra, i = .wDbl rd ra) ∨ (∃ ra rb, i = .wMul rd ra rb) ∨
      (∃ ra rb, i = .eAdd rd ra rb) ∨ (∃ ra rb, i = .eMul rd ra rb)) →
    exec i s = .next t →
    (∀ k, k ≠ rd → k ≠ rd + 1 → t.readB k = s.readB k) ∧ (∀ a, t.mb.read a = s.mb.read a) ∧
    t = { s with b := t.b, inf := t.inf, busy := t.busy, done := t.done, err := t.err }

/-! ## The host's window -/

/-- R64, R65: the address map by byte offset: every named word, every word of DG, H, B and MB, and reserved
everywhere else. -/
def Obligations.AddressMap : Prop :=
  ∀ c : Config,
    target c 0 = .id ∧ target c 1 = .cmd ∧ target c 2 = .status ∧ target c 3 = .ctrl ∧ target c 4 = .mlen ∧
    target c 5 = .plen ∧ target c 6 = .blk ∧ target c 7 = .cap ∧
    (∀ k, k < 16 → target c ((0x0040 + 4 * k) / 4) = .dg k) ∧
    (∀ k, k < 16 → target c ((0x0080 + 4 * k) / 4) = .h k) ∧
    (∀ (i : Reg) (j : Nat), j < 16 → target c ((0x0400 + 64 * i.val + 4 * j) / 4) = .b i j) ∧
    (∀ q, 4 * q < c.msgCap → target c ((0x1000 + 4 * q) / 4) = .mb q) ∧
    (∀ word, (0x0020 ≤ 4 * word ∧ 4 * word ≤ 0x003F) ∨ (0x00C0 ≤ 4 * word ∧ 4 * word ≤ 0x03FF) ∨
      (0x0800 ≤ 4 * word ∧ 4 * word ≤ 0x0FFF) ∨ 0x1000 + c.msgCap ≤ 4 * word → target c word = .reserved)

/-- R28, R282: a full write of CMD is accepted exactly when BUSY and ERR are 0: CMD, BUSY, DONE; otherwise it is
dropped with HAZ; a read returns the last accepted word. -/
def Obligations.CommandWriteAcceptedOrDropped : Prop :=
  ∀ (s : State) (w : Word) (rest : List Move), HostTurn s (.write 1 w 0xF) rest →
    (s.busy = false → s.err = .none →
      step s = .next { s with schedule := rest, cmd := w, busy := true, done := false }) ∧
    (s.busy = true ∨ s.err ≠ .none → step s = .next { s with schedule := rest, haz := true }) ∧
    s.windowWord .cmd = s.cmd

/-- R30, R288: a write of CTRL, busy or not, with all four strobes: with SRST the machine takes the reset and no other
bit counts; else the enables are stored, CLRERR clears ERR and HAZ, CLRDONE clears DONE, and nothing else changes;
with one to three strobes it is dropped with HAZ; a read returns the enables in bits 2 and 3 and 0 elsewhere. -/
def Obligations.ControlWriteActs : Prop :=
  ∀ (s : State) (w : Word) (strobes : BitVec 4) (rest : List Move), HostTurn s (.write 3 w strobes) rest →
    (strobes = 0xF → w.getLsbD 0 = true → step s = .next (State.takeReset { s with schedule := rest })) ∧
    (strobes = 0xF → w.getLsbD 0 = false →
      step s = .next { s with
        schedule := rest
        ieDone := w.getLsbD 2
        ieErr := w.getLsbD 3
        err := if w.getLsbD 1 = true then .none else s.err
        haz := if w.getLsbD 1 = true then false else s.haz
        done := if w.getLsbD 4 = true then false else s.done }) ∧
    (strobes ≠ 0 → strobes ≠ 0xF → step s = .next { s with schedule := rest, haz := true }) ∧
    bits (s.windowWord .ctrl) 1 0 = 0 ∧ bits (s.windowWord .ctrl) 2 2 = s.ieDone.toNat ∧
    bits (s.windowWord .ctrl) 3 3 = s.ieErr.toNat ∧ bits (s.windowWord .ctrl) 31 4 = 0

/-- R310, R311: the hard reset input and a CTRL write with SRST have the same effect on the control state: it is 0,
the engine is idle, there is no error and no hash context, and irq is 0, also when a command was in execution.
The equation of the whole next states says more than the spec: that the two leave the same B, H, DG and MB, which R41
leaves unspecified, is the model's choice (log entry 21: both take the free values of one draw), and that the moves to
come survive is the model's too (log entry 19). Which values they are is free (log entry 2). -/
def Obligations.ResetClearsControlState : Prop :=
  ∀ (s : State) (w : Word) (rest : List Move), w.getLsbD 0 = true →
    step { s with schedule := .hardReset :: rest } = step { s with schedule := .bus (.write 3 w 0xF) :: rest } ∧
    ∃ t, step { s with schedule := .hardReset :: rest } = .next t ∧
      t.cmd = 0 ∧ t.statusWord = 0 ∧ t.ctrlWord = 0 ∧ t.mlen = 0 ∧ t.plen = 0 ∧ t.blk = 0 ∧
      t.busy = false ∧ t.done = false ∧ t.err = .none ∧ t.haz = false ∧ t.z = false ∧ t.inf = false ∧
      t.hs = .none ∧ t.hv = .v20 ∧ t.irq = false ∧
      t.windowWord .id = 0x43504501 ∧ t.windowWord .cap = s.windowWord .cap ∧ t.schedule = rest

/-- R316, R75, R65: which host writes are lost and leave HAZ: any write to CMD, MLEN, B or MB while BUSY, a write
with some but not all strobes to CMD, CTRL, MLEN or B at any time, a CMD write while ERR is not 0; a write to a
read-only or reserved word changes nothing at all. -/
def Obligations.LostWritesSetHaz : Prop :=
  ∀ (s : State) (word : Nat) (data : Word) (strobes : BitVec 4) (rest : List Move),
    HostTurn s (.write word data strobes) rest → strobes ≠ 0 →
    let g := target s.config word
    let dropped := step s = .next { s with schedule := rest, haz := true }
    (s.busy = true → (g = .cmd ∨ g = .mlen ∨ (∃ i j, g = .b i j) ∨ ∃ q, g = .mb q) → dropped) ∧
    (strobes ≠ 0xF → (g = .cmd ∨ g = .ctrl ∨ g = .mlen ∨ ∃ i j, g = .b i j) → dropped) ∧
    (s.err ≠ .none → g = .cmd → dropped) ∧
    (g = .id ∨ g = .status ∨ g = .plen ∨ g = .blk ∨ g = .cap ∨ (∃ k, g = .dg k) ∨ (∃ k, g = .h k) ∨ g = .reserved →
      step s = .next { s with schedule := rest })

/-- R67, R317, R65: a read changes no state of the engine; it returns the word's value, except that while BUSY a
read of MLEN, PLEN, BLK, B, H, DG or MB returns some value, of which nothing is said; a reserved word reads 0. -/
def Obligations.ReadsChangeNothing : Prop :=
  ∀ (s : State) (word : Nat) (rest : List Move), HostTurn s (.read word) rest →
    let g := target s.config word
    (s.busy = false ∨ g = .id ∨ g = .cmd ∨ g = .status ∨ g = .ctrl ∨ g = .cap ∨ g = .reserved →
      step s = .next { s with schedule := rest, readData := s.windowWord g }) ∧
    (s.busy = true → (g = .mlen ∨ g = .plen ∨ g = .blk ∨ (∃ i j, g = .b i j) ∨ (∃ k, g = .h k) ∨ (∃ k, g = .dg k) ∨
      ∃ q, g = .mb q) →
      ∃ v, step s = .next { s with schedule := rest, readData := v, draws := s.draws + 1 }) ∧
    (g = .reserved → s.windowWord g = 0)

/-- R27, R29, R34, R42, R283: what the host reads in ID, CAP, PLEN, BLK and the fields of STATUS, with the numbers of
the error codes, hash states and variants; and irq: 1 exactly when DONE and IE_DONE are, or ERR is not 0 and IE_ERR
is 1. -/
def Obligations.ControlRegisterReadsAndInterrupt : Prop :=
  (∀ s : State,
    let w := s.windowWord .status
    s.windowWord .id = 0x43504501 ∧ (s.windowWord .cap).toNat = s.config.msgCap ∧
    s.windowWord .plen = s.plen ∧ s.windowWord .blk = s.blk ∧
    bits w 0 0 = s.busy.toNat ∧ bits w 1 1 = s.done.toNat ∧ bits w 2 2 = s.z.toNat ∧ bits w 3 3 = s.inf.toNat ∧
    bits w 7 4 = s.err.code ∧ bits w 10 8 = s.hs.code ∧ bits w 11 11 = s.haz.toNat ∧ bits w 13 12 = s.hv.number ∧
    bits w 31 14 = 0 ∧
    (s.irq = true ↔ (s.done = true ∧ s.ieDone = true) ∨ (s.err ≠ .none ∧ s.ieErr = true))) ∧
  [ErrorCode.none, .illegal, .hstate, .msglen, .modulus, .range].map ErrorCode.code = [0, 1, 2, 3, 4, 5] ∧
  [HashState.none, .initialized, .padded, .processing, .finalized].map HashState.code = [0, 1, 2, 3, 4] ∧
  [Variant.v20, .v32, .v64].map Variant.number = [0, 1, 2]

/-- R31, R68: a full write, while not BUSY, of MLEN stores any 32-bit value and changes nothing else; of word `j` of
`B[i]` replaces bits `[32*j+31 : 32*j]` and leaves the other 480 bits, every other register and the rest of the
state; a read returns the value, or those bits. -/
def Obligations.MlenAndBigRegisterWordAccess : Prop :=
  (∀ (s : State) (n : Word) (rest : List Move), s.busy = false → HostTurn s (.write 4 n 0xF) rest →
    s.windowWord .mlen = s.mlen ∧ step s = .next { s with schedule := rest, mlen := n }) ∧
  (∀ (s : State) (i : Reg) (j : Nat) (data : Word) (rest : List Move), j < 16 → s.busy = false →
    HostTurn s (.write ((0x0400 + 64 * i.val + 4 * j) / 4) data 0xF) rest →
    (s.windowWord (.b i j)).toNat = (s.readB i).toNat / 2 ^ (32 * j) % 2 ^ 32 ∧
    ∃ t, step s = .next t ∧
      (∀ n, (t.readB i).getLsbD n =
        if 32 * j ≤ n ∧ n < 32 * j + 32 then data.getLsbD (n - 32 * j) else (s.readB i).getLsbD n) ∧
      (∀ k, k ≠ i → t.readB k = s.readB k) ∧
      t = { s with b := t.b, schedule := rest })

/-- R66, R68: the sixteen word writes of `HostWriteB(i, v)` on an engine that is not busy leave `B[i] = v` and
change nothing else. -/
def Obligations.HostWriteBStoresValue : Prop :=
  ∀ (s : State) (i : Reg) (v : Big) (rest : List Move), s.busy = false → s.schedule = hostWriteB i v ++ rest →
    Host.Core.run Sys2Proof.core 16 s = .next { s.writeB i v with schedule := rest }

/-- R71, R75: a strobed write of a word of MB, while not BUSY, stores exactly the bytes whose strobe is 1 and leaves
every other byte and the rest of the state; a read returns the four bytes, the lowest index in the lowest lane. -/
def Obligations.MessageWordAccess : Prop :=
  ∀ (s : State) (q : Nat) (data : Word) (strobes : BitVec 4) (rest : List Move),
    s.mb.wf = true → s.busy = false → 4 * q < s.config.msgCap →
    HostTurn s (.write ((0x1000 + 4 * q) / 4) data strobes) rest →
    (s.windowWord (.mb q)).toNat =
      (s.mb.read (4 * q)).toNat + 2 ^ 8 * (s.mb.read (4 * q + 1)).toNat + 2 ^ 16 * (s.mb.read (4 * q + 2)).toNat +
        2 ^ 24 * (s.mb.read (4 * q + 3)).toNat ∧
    ∃ t, step s = .next t ∧
      (∀ a, t.mb.read a =
        if a / 4 = q ∧ strobes.getLsbD (a % 4) = true then BitVec.ofNat 8 (data.toNat / 2 ^ (8 * (a % 4)))
        else s.mb.read a) ∧
      t = { s with mb := t.mb, schedule := rest }

/-- R69, R70: a read of DG returns digest byte `k` in lane `k mod 4` of the word at offset `0x0040 + 4*floor(k/4)`;
a read of H returns the low half of `H[k]` at offset `0x0080 + 8*k` and the high half 4 above, which is 0 in a hash
context of V20 or V32. -/
def Obligations.DigestAndHashWordReads : Prop :=
  ∀ s : State,
    let word (offset : Nat) := s.windowWord (target s.config (offset / 4))
    (∀ k : Fin 64, bits (word (0x0040 + 4 * (k.val / 4))) (8 * (k.val % 4) + 7) (8 * (k.val % 4)) = (s.dg[k]).toNat) ∧
    (∀ k : Fin 8, (word (0x0080 + 8 * k.val)).toNat = (s.h[k]).toNat % 2 ^ 32 ∧
      (word (0x0080 + 8 * k.val + 4)).toNat = (s.h[k]).toNat / 2 ^ 32 ∧
      (s.Inv → s.hs ≠ .none → s.hv ≠ .v64 → word (0x0080 + 8 * k.val + 4) = 0))
end

