-- ==== Sys2Proof/Laws/Memory.lean ====
section
/-! SUPPORT. The message buffer: a read after a write, and that every operation keeps the canonical form and
the bound. -/

namespace Sys2Proof.Machine

/-- The canonical form as a proposition: rising offsets, no default entry. -/
theorem Memory.wf_iff (m : Memory) :
    m.wf = true ↔ m.Pairwise (fun x y => x.1 < y.1) ∧ ∀ x ∈ m, x.2 ≠ Memory.unlisted := by
  simp [Memory.wf]

theorem Memory.below_iff (m : Memory) (n : Nat) : m.below n = true ↔ ∀ x ∈ m, x.1 < n := by
  simp [Memory.below]

@[simp] theorem Memory.read_nil (a : Nat) : Memory.read [] a = Memory.unlisted := rfl

theorem Memory.read_cons (k : Nat) (v : Byte) (m : Memory) (a : Nat) :
    Memory.read ((k, v) :: m) a = if k = a then v else m.read a := rfl

/-- An offset below every listed one reads as unlisted. -/
theorem Memory.read_of_lt (m : Memory) (a : Nat) (h : ∀ x ∈ m, a < x.1) : m.read a = Memory.unlisted := by
  induction m with
  | nil => rfl
  | cons x m ih =>
    obtain ⟨k, v⟩ := x
    have hk : a < k := h (k, v) (by simp)
    rw [Memory.read_cons, if_neg (by omega)]
    exact ih fun x hx => h x (by simp [hx])

/-- A write is read back at its own offset and nowhere else (20_memory R61, R67). -/
theorem Memory.read_write (m : Memory) (hs : m.Pairwise (fun x y => x.1 < y.1)) (a : Nat) (v : Byte) (c : Nat) :
    (m.write a v).read c = if c = a then v else m.read c := by
  induction m with
  | nil =>
    by_cases hv : v = Memory.unlisted <;> by_cases hc : a = c <;>
      simp [Memory.write, Memory.read_cons, hv, hc, eq_comm]
  | cons x m ih =>
    obtain ⟨k, u⟩ := x
    obtain ⟨hx, hm⟩ := List.pairwise_cons.1 hs
    have ih' := ih hm
    unfold Memory.write
    by_cases h1 : a < k
    · rw [if_pos h1]
      by_cases hv : v = Memory.unlisted
      · rw [if_pos hv]
        by_cases hc : c = a
        · subst hc
          rw [if_pos rfl, hv, Memory.read_of_lt]
          rintro ⟨k', u'⟩ hmem
          rcases List.mem_cons.1 hmem with h | h
          · simp only [Prod.mk.injEq] at h; simp only; omega
          · exact Nat.lt_trans h1 (hx _ h)
        · rw [if_neg hc]
      · rw [if_neg hv, Memory.read_cons]
        by_cases hc : c = a
        · rw [if_pos hc, if_pos hc.symm]
        · rw [if_neg hc, if_neg (Ne.symm hc)]
    · rw [if_neg h1]
      by_cases h2 : a = k
      · subst h2
        rw [if_pos rfl]
        by_cases hv : v = Memory.unlisted
        · rw [if_pos hv]
          by_cases hc : c = a
          · subst hc
            rw [if_pos rfl, hv, Memory.read_of_lt _ _ hx]
          · rw [if_neg hc, Memory.read_cons, if_neg (Ne.symm hc)]
        · rw [if_neg hv, Memory.read_cons]
          by_cases hc : c = a
          · rw [if_pos hc, if_pos hc.symm]
          · rw [if_neg hc, if_neg (Ne.symm hc), Memory.read_cons, if_neg (Ne.symm hc)]
      · rw [if_neg h2, Memory.read_cons, ih', Memory.read_cons]
        by_cases hc : c = a
        · subst hc
          rw [if_pos rfl, if_pos rfl, if_neg (Ne.symm h2)]
        · rw [if_neg hc, if_neg hc]

/-- Every entry of a buffer after a write is the written one or an old one. -/
theorem Memory.mem_write (m : Memory) (a : Nat) (v : Byte) (x : Host.Cell) (h : x ∈ m.write a v) :
    (x = (a, v) ∧ v ≠ Memory.unlisted) ∨ x ∈ m := by
  induction m with
  | nil =>
    unfold Memory.write at h
    split at h
    · simp at h
    · exact .inl ⟨by simpa using h, ‹_›⟩
  | cons y m ih =>
    obtain ⟨k, u⟩ := y
    unfold Memory.write at h
    split at h
    · split at h
      · exact .inr h
      · rcases List.mem_cons.1 h with h | h
        · exact .inl ⟨h, ‹_›⟩
        · exact .inr h
    · split at h
      · split at h
        · exact .inr (List.mem_cons_of_mem _ h)
        · rcases List.mem_cons.1 h with h | h
          · exact .inl ⟨h, ‹_›⟩
          · exact .inr (List.mem_cons_of_mem _ h)
      · rcases List.mem_cons.1 h with h | h
        · exact .inr (by simp [h])
        · rcases ih h with h | h
          · exact .inl h
          · exact .inr (List.mem_cons_of_mem _ h)

/-- A write keeps the offsets strictly rising. -/
theorem Memory.pairwise_write (m : Memory) (hs : m.Pairwise (fun x y => x.1 < y.1)) (a : Nat) (v : Byte) :
    (m.write a v).Pairwise (fun x y => x.1 < y.1) := by
  induction m with
  | nil => unfold Memory.write; split <;> simp
  | cons y m ih =>
    obtain ⟨k, u⟩ := y
    obtain ⟨hx, hm⟩ := List.pairwise_cons.1 hs
    unfold Memory.write
    split
    · split
      · exact hs
      · refine List.pairwise_cons.2 ⟨?_, hs⟩
        intro z hz
        rcases List.mem_cons.1 hz with hz | hz
        · subst hz; assumption
        · exact Nat.lt_trans ‹_› (hx z hz)
    · split
      · split
        · exact hm
        · rename_i h1 h2 _
          subst h2
          exact List.pairwise_cons.2 ⟨hx, hm⟩
      · refine List.pairwise_cons.2 ⟨?_, ih hm⟩
        intro z hz
        rcases Memory.mem_write m a v z hz with ⟨hz, _⟩ | hz
        · subst hz; simp only; omega
        · exact hx z hz

/-- A write keeps the canonical form. -/
theorem Memory.wf_write (m : Memory) (h : m.wf = true) (a : Nat) (v : Byte) : (m.write a v).wf = true := by
  rw [Memory.wf_iff] at *
  refine ⟨Memory.pairwise_write m h.1 a v, fun x hx => ?_⟩
  rcases Memory.mem_write m a v x hx with ⟨rfl, hv⟩ | hx
  · exact hv
  · exact h.2 x hx

/-- A write below the bound keeps the bound. -/
theorem Memory.below_write (m : Memory) (n : Nat) (h : m.below n = true) (a : Nat) (v : Byte) (ha : a < n) :
    (m.write a v).below n = true := by
  rw [Memory.below_iff] at *
  intro x hx
  rcases Memory.mem_write m a v x hx with ⟨rfl, _⟩ | hx
  · exact ha
  · exact h x hx

theorem Memory.wf_writeBytes (s : List Byte) (m : Memory) (h : m.wf = true) (a : Nat) :
    (m.writeBytes a s).wf = true := by
  induction s generalizing m a with
  | nil => exact h
  | cons v s ih => exact ih _ (Memory.wf_write m h a v) _

theorem Memory.below_writeBytes (s : List Byte) (m : Memory) (n : Nat) (h : m.below n = true) (a : Nat)
    (ha : a + s.length ≤ n) : (m.writeBytes a s).below n = true := by
  induction s generalizing m a with
  | nil => exact h
  | cons v s ih =>
    rw [List.length_cons] at ha
    exact ih _ (Memory.below_write m n h a v (by omega)) _ (by omega)

/-- A write of a byte sequence changes exactly its own bytes (00_scope R15). -/
theorem Memory.read_writeBytes (s : List Byte) (m : Memory) (h : m.wf = true) (a c : Nat) :
    (m.writeBytes a s).read c = if a ≤ c ∧ c < a + s.length then s.getD (c - a) 0 else m.read c := by
  induction s generalizing m a with
  | nil => simp [Memory.writeBytes]
  | cons v s ih =>
    have hw := (Memory.wf_iff m).1 h
    rw [Memory.writeBytes, ih _ (Memory.wf_write m h a v), Memory.read_write m hw.1, List.length_cons]
    by_cases h1 : a + 1 ≤ c ∧ c < a + 1 + s.length
    · rw [if_pos h1, if_pos (by omega), show c - a = (c - (a + 1)) + 1 by omega, List.getD_cons_succ]
    · rw [if_neg h1]
      by_cases h2 : c = a
      · subst h2
        rw [if_pos rfl, if_pos (by omega), Nat.sub_self, List.getD_cons_zero]
      · rw [if_neg h2, if_neg (by omega)]

@[simp] theorem Memory.length_readBytes (m : Memory) (a n : Nat) : (m.readBytes a n).length = n := by
  simp [Memory.readBytes]

/-- Every entry of `ofFn` is a byte of the function that is not the unlisted value. -/
theorem Memory.mem_ofFn (n : Nat) (f : Nat → Byte) (x : Host.Cell) :
    x ∈ Memory.ofFn n f ↔ x.1 < n ∧ f x.1 ≠ Memory.unlisted ∧ x.2 = f x.1 := by
  obtain ⟨a, v⟩ := x
  simp only [Memory.ofFn, List.mem_filterMap, List.mem_range, Option.ite_none_left_eq_some,
    Option.some.injEq, Prod.mk.injEq]
  constructor
  · rintro ⟨c, hc, hf, rfl, rfl⟩
    exact ⟨hc, hf, rfl⟩
  · rintro ⟨hc, hf, hv⟩
    exact ⟨a, hc, hf, rfl, hv.symm⟩

theorem Memory.wf_ofFn (n : Nat) (f : Nat → Byte) : (Memory.ofFn n f).wf = true := by
  rw [Memory.wf_iff]
  constructor
  · refine List.Pairwise.filterMap _ ?_ (List.pairwise_lt_range (n := n))
    intro a c hac x hx y hy
    simp only [Option.ite_none_left_eq_some, Option.some.injEq] at hx hy
    rw [← hx.2, ← hy.2]
    exact hac
  · intro x hx
    have h := (Memory.mem_ofFn n f x).1 hx
    rw [h.2.2]
    exact h.2.1

theorem Memory.below_ofFn (n : Nat) (f : Nat → Byte) : (Memory.ofFn n f).below n = true := by
  rw [Memory.below_iff]
  exact fun x hx => ((Memory.mem_ofFn n f x).1 hx).1

end Sys2Proof.Machine
end

