-- ==== Sys2Proof/Laws/State.lean ====
section
/-! SUPPORT. One lemma per field per update of State, each true by rfl, so that no later proof unfolds a record
update. -/

namespace Sys2Proof.Machine

variable (s : State)

@[simp] theorem State.writeB_b (i : Reg) (v : Big) : (s.writeB i v).b = s.b.set i v := rfl
@[simp] theorem State.writeB_z (i : Reg) (v : Big) : (s.writeB i v).z = s.z := rfl
@[simp] theorem State.writeB_inf (i : Reg) (v : Big) : (s.writeB i v).inf = s.inf := rfl
@[simp] theorem State.writeB_cmd (i : Reg) (v : Big) : (s.writeB i v).cmd = s.cmd := rfl
@[simp] theorem State.writeB_busy (i : Reg) (v : Big) : (s.writeB i v).busy = s.busy := rfl
@[simp] theorem State.writeB_done (i : Reg) (v : Big) : (s.writeB i v).done = s.done := rfl
@[simp] theorem State.writeB_err (i : Reg) (v : Big) : (s.writeB i v).err = s.err := rfl
@[simp] theorem State.writeB_haz (i : Reg) (v : Big) : (s.writeB i v).haz = s.haz := rfl
@[simp] theorem State.writeB_ieDone (i : Reg) (v : Big) : (s.writeB i v).ieDone = s.ieDone := rfl
@[simp] theorem State.writeB_ieErr (i : Reg) (v : Big) : (s.writeB i v).ieErr = s.ieErr := rfl
@[simp] theorem State.writeB_mlen (i : Reg) (v : Big) : (s.writeB i v).mlen = s.mlen := rfl
@[simp] theorem State.writeB_plen (i : Reg) (v : Big) : (s.writeB i v).plen = s.plen := rfl
@[simp] theorem State.writeB_blk (i : Reg) (v : Big) : (s.writeB i v).blk = s.blk := rfl
@[simp] theorem State.writeB_hs (i : Reg) (v : Big) : (s.writeB i v).hs = s.hs := rfl
@[simp] theorem State.writeB_hv (i : Reg) (v : Big) : (s.writeB i v).hv = s.hv := rfl
@[simp] theorem State.writeB_h (i : Reg) (v : Big) : (s.writeB i v).h = s.h := rfl
@[simp] theorem State.writeB_dg (i : Reg) (v : Big) : (s.writeB i v).dg = s.dg := rfl
@[simp] theorem State.writeB_mb (i : Reg) (v : Big) : (s.writeB i v).mb = s.mb := rfl
@[simp] theorem State.writeB_config (i : Reg) (v : Big) : (s.writeB i v).config = s.config := rfl
@[simp] theorem State.writeB_schedule (i : Reg) (v : Big) : (s.writeB i v).schedule = s.schedule := rfl
@[simp] theorem State.writeB_readData (i : Reg) (v : Big) : (s.writeB i v).readData = s.readData := rfl
@[simp] theorem State.writeB_draws (i : Reg) (v : Big) : (s.writeB i v).draws = s.draws := rfl

@[simp] theorem State.complete_b : (s.complete).b = s.b := rfl
@[simp] theorem State.complete_z : (s.complete).z = s.z := rfl
@[simp] theorem State.complete_inf : (s.complete).inf = s.inf := rfl
@[simp] theorem State.complete_cmd : (s.complete).cmd = s.cmd := rfl
@[simp] theorem State.complete_busy : (s.complete).busy = false := rfl
@[simp] theorem State.complete_done : (s.complete).done = true := rfl
@[simp] theorem State.complete_err : (s.complete).err = s.err := rfl
@[simp] theorem State.complete_haz : (s.complete).haz = s.haz := rfl
@[simp] theorem State.complete_ieDone : (s.complete).ieDone = s.ieDone := rfl
@[simp] theorem State.complete_ieErr : (s.complete).ieErr = s.ieErr := rfl
@[simp] theorem State.complete_mlen : (s.complete).mlen = s.mlen := rfl
@[simp] theorem State.complete_plen : (s.complete).plen = s.plen := rfl
@[simp] theorem State.complete_blk : (s.complete).blk = s.blk := rfl
@[simp] theorem State.complete_hs : (s.complete).hs = s.hs := rfl
@[simp] theorem State.complete_hv : (s.complete).hv = s.hv := rfl
@[simp] theorem State.complete_h : (s.complete).h = s.h := rfl
@[simp] theorem State.complete_dg : (s.complete).dg = s.dg := rfl
@[simp] theorem State.complete_mb : (s.complete).mb = s.mb := rfl
@[simp] theorem State.complete_config : (s.complete).config = s.config := rfl
@[simp] theorem State.complete_schedule : (s.complete).schedule = s.schedule := rfl
@[simp] theorem State.complete_readData : (s.complete).readData = s.readData := rfl
@[simp] theorem State.complete_draws : (s.complete).draws = s.draws := rfl

@[simp] theorem State.raise_b (e : ErrorCode) : (s.raise e).b = s.b := rfl
@[simp] theorem State.raise_z (e : ErrorCode) : (s.raise e).z = s.z := rfl
@[simp] theorem State.raise_inf (e : ErrorCode) : (s.raise e).inf = s.inf := rfl
@[simp] theorem State.raise_cmd (e : ErrorCode) : (s.raise e).cmd = s.cmd := rfl
@[simp] theorem State.raise_busy (e : ErrorCode) : (s.raise e).busy = false := rfl
@[simp] theorem State.raise_done (e : ErrorCode) : (s.raise e).done = s.done := rfl
@[simp] theorem State.raise_err (e : ErrorCode) : (s.raise e).err = e := rfl
@[simp] theorem State.raise_haz (e : ErrorCode) : (s.raise e).haz = s.haz := rfl
@[simp] theorem State.raise_ieDone (e : ErrorCode) : (s.raise e).ieDone = s.ieDone := rfl
@[simp] theorem State.raise_ieErr (e : ErrorCode) : (s.raise e).ieErr = s.ieErr := rfl
@[simp] theorem State.raise_mlen (e : ErrorCode) : (s.raise e).mlen = s.mlen := rfl
@[simp] theorem State.raise_plen (e : ErrorCode) : (s.raise e).plen = s.plen := rfl
@[simp] theorem State.raise_blk (e : ErrorCode) : (s.raise e).blk = s.blk := rfl
@[simp] theorem State.raise_hs (e : ErrorCode) : (s.raise e).hs = s.hs := rfl
@[simp] theorem State.raise_hv (e : ErrorCode) : (s.raise e).hv = s.hv := rfl
@[simp] theorem State.raise_h (e : ErrorCode) : (s.raise e).h = s.h := rfl
@[simp] theorem State.raise_dg (e : ErrorCode) : (s.raise e).dg = s.dg := rfl
@[simp] theorem State.raise_mb (e : ErrorCode) : (s.raise e).mb = s.mb := rfl
@[simp] theorem State.raise_config (e : ErrorCode) : (s.raise e).config = s.config := rfl
@[simp] theorem State.raise_schedule (e : ErrorCode) : (s.raise e).schedule = s.schedule := rfl
@[simp] theorem State.raise_readData (e : ErrorCode) : (s.raise e).readData = s.readData := rfl
@[simp] theorem State.raise_draws (e : ErrorCode) : (s.raise e).draws = s.draws := rfl

@[simp] theorem State.clearError_b : (s.clearError).b = s.b := rfl
@[simp] theorem State.clearError_z : (s.clearError).z = s.z := rfl
@[simp] theorem State.clearError_inf : (s.clearError).inf = s.inf := rfl
@[simp] theorem State.clearError_cmd : (s.clearError).cmd = s.cmd := rfl
@[simp] theorem State.clearError_busy : (s.clearError).busy = s.busy := rfl
@[simp] theorem State.clearError_done : (s.clearError).done = s.done := rfl
@[simp] theorem State.clearError_err : (s.clearError).err = .none := rfl
@[simp] theorem State.clearError_haz : (s.clearError).haz = false := rfl
@[simp] theorem State.clearError_ieDone : (s.clearError).ieDone = s.ieDone := rfl
@[simp] theorem State.clearError_ieErr : (s.clearError).ieErr = s.ieErr := rfl
@[simp] theorem State.clearError_mlen : (s.clearError).mlen = s.mlen := rfl
@[simp] theorem State.clearError_plen : (s.clearError).plen = s.plen := rfl
@[simp] theorem State.clearError_blk : (s.clearError).blk = s.blk := rfl
@[simp] theorem State.clearError_hs : (s.clearError).hs = s.hs := rfl
@[simp] theorem State.clearError_hv : (s.clearError).hv = s.hv := rfl
@[simp] theorem State.clearError_h : (s.clearError).h = s.h := rfl
@[simp] theorem State.clearError_dg : (s.clearError).dg = s.dg := rfl
@[simp] theorem State.clearError_mb : (s.clearError).mb = s.mb := rfl
@[simp] theorem State.clearError_config : (s.clearError).config = s.config := rfl
@[simp] theorem State.clearError_schedule : (s.clearError).schedule = s.schedule := rfl
@[simp] theorem State.clearError_readData : (s.clearError).readData = s.readData := rfl
@[simp] theorem State.clearError_draws : (s.clearError).draws = s.draws := rfl

@[simp] theorem State.hazard_b : (s.hazard).b = s.b := rfl
@[simp] theorem State.hazard_z : (s.hazard).z = s.z := rfl
@[simp] theorem State.hazard_inf : (s.hazard).inf = s.inf := rfl
@[simp] theorem State.hazard_cmd : (s.hazard).cmd = s.cmd := rfl
@[simp] theorem State.hazard_busy : (s.hazard).busy = s.busy := rfl
@[simp] theorem State.hazard_done : (s.hazard).done = s.done := rfl
@[simp] theorem State.hazard_err : (s.hazard).err = s.err := rfl
@[simp] theorem State.hazard_haz : (s.hazard).haz = true := rfl
@[simp] theorem State.hazard_ieDone : (s.hazard).ieDone = s.ieDone := rfl
@[simp] theorem State.hazard_ieErr : (s.hazard).ieErr = s.ieErr := rfl
@[simp] theorem State.hazard_mlen : (s.hazard).mlen = s.mlen := rfl
@[simp] theorem State.hazard_plen : (s.hazard).plen = s.plen := rfl
@[simp] theorem State.hazard_blk : (s.hazard).blk = s.blk := rfl
@[simp] theorem State.hazard_hs : (s.hazard).hs = s.hs := rfl
@[simp] theorem State.hazard_hv : (s.hazard).hv = s.hv := rfl
@[simp] theorem State.hazard_h : (s.hazard).h = s.h := rfl
@[simp] theorem State.hazard_dg : (s.hazard).dg = s.dg := rfl
@[simp] theorem State.hazard_mb : (s.hazard).mb = s.mb := rfl
@[simp] theorem State.hazard_config : (s.hazard).config = s.config := rfl
@[simp] theorem State.hazard_schedule : (s.hazard).schedule = s.schedule := rfl
@[simp] theorem State.hazard_readData : (s.hazard).readData = s.readData := rfl
@[simp] theorem State.hazard_draws : (s.hazard).draws = s.draws := rfl

@[simp] theorem State.accept_b (w : Word) : (s.accept w).b = s.b := rfl
@[simp] theorem State.accept_z (w : Word) : (s.accept w).z = s.z := rfl
@[simp] theorem State.accept_inf (w : Word) : (s.accept w).inf = s.inf := rfl
@[simp] theorem State.accept_cmd (w : Word) : (s.accept w).cmd = w := rfl
@[simp] theorem State.accept_busy (w : Word) : (s.accept w).busy = true := rfl
@[simp] theorem State.accept_done (w : Word) : (s.accept w).done = false := rfl
@[simp] theorem State.accept_err (w : Word) : (s.accept w).err = s.err := rfl
@[simp] theorem State.accept_haz (w : Word) : (s.accept w).haz = s.haz := rfl
@[simp] theorem State.accept_ieDone (w : Word) : (s.accept w).ieDone = s.ieDone := rfl
@[simp] theorem State.accept_ieErr (w : Word) : (s.accept w).ieErr = s.ieErr := rfl
@[simp] theorem State.accept_mlen (w : Word) : (s.accept w).mlen = s.mlen := rfl
@[simp] theorem State.accept_plen (w : Word) : (s.accept w).plen = s.plen := rfl
@[simp] theorem State.accept_blk (w : Word) : (s.accept w).blk = s.blk := rfl
@[simp] theorem State.accept_hs (w : Word) : (s.accept w).hs = s.hs := rfl
@[simp] theorem State.accept_hv (w : Word) : (s.accept w).hv = s.hv := rfl
@[simp] theorem State.accept_h (w : Word) : (s.accept w).h = s.h := rfl
@[simp] theorem State.accept_dg (w : Word) : (s.accept w).dg = s.dg := rfl
@[simp] theorem State.accept_mb (w : Word) : (s.accept w).mb = s.mb := rfl
@[simp] theorem State.accept_config (w : Word) : (s.accept w).config = s.config := rfl
@[simp] theorem State.accept_schedule (w : Word) : (s.accept w).schedule = s.schedule := rfl
@[simp] theorem State.accept_readData (w : Word) : (s.accept w).readData = s.readData := rfl
@[simp] theorem State.accept_draws (w : Word) : (s.accept w).draws = s.draws := rfl

@[simp] theorem State.withZ_b (r : Nat) : (s.withZ r).b = s.b := rfl
@[simp] theorem State.withZ_z (r : Nat) : (s.withZ r).z = decide (r = 0) := rfl
@[simp] theorem State.withZ_inf (r : Nat) : (s.withZ r).inf = s.inf := rfl
@[simp] theorem State.withZ_cmd (r : Nat) : (s.withZ r).cmd = s.cmd := rfl
@[simp] theorem State.withZ_busy (r : Nat) : (s.withZ r).busy = s.busy := rfl
@[simp] theorem State.withZ_done (r : Nat) : (s.withZ r).done = s.done := rfl
@[simp] theorem State.withZ_err (r : Nat) : (s.withZ r).err = s.err := rfl
@[simp] theorem State.withZ_haz (r : Nat) : (s.withZ r).haz = s.haz := rfl
@[simp] theorem State.withZ_ieDone (r : Nat) : (s.withZ r).ieDone = s.ieDone := rfl
@[simp] theorem State.withZ_ieErr (r : Nat) : (s.withZ r).ieErr = s.ieErr := rfl
@[simp] theorem State.withZ_mlen (r : Nat) : (s.withZ r).mlen = s.mlen := rfl
@[simp] theorem State.withZ_plen (r : Nat) : (s.withZ r).plen = s.plen := rfl
@[simp] theorem State.withZ_blk (r : Nat) : (s.withZ r).blk = s.blk := rfl
@[simp] theorem State.withZ_hs (r : Nat) : (s.withZ r).hs = s.hs := rfl
@[simp] theorem State.withZ_hv (r : Nat) : (s.withZ r).hv = s.hv := rfl
@[simp] theorem State.withZ_h (r : Nat) : (s.withZ r).h = s.h := rfl
@[simp] theorem State.withZ_dg (r : Nat) : (s.withZ r).dg = s.dg := rfl
@[simp] theorem State.withZ_mb (r : Nat) : (s.withZ r).mb = s.mb := rfl
@[simp] theorem State.withZ_config (r : Nat) : (s.withZ r).config = s.config := rfl
@[simp] theorem State.withZ_schedule (r : Nat) : (s.withZ r).schedule = s.schedule := rfl
@[simp] theorem State.withZ_readData (r : Nat) : (s.withZ r).readData = s.readData := rfl
@[simp] theorem State.withZ_draws (r : Nat) : (s.withZ r).draws = s.draws := rfl

@[simp] theorem State.withInf_b (x y : Nat) : (s.withInf x y).b = s.b := rfl
@[simp] theorem State.withInf_z (x y : Nat) : (s.withInf x y).z = s.z := rfl
@[simp] theorem State.withInf_inf (x y : Nat) : (s.withInf x y).inf = decide (x = 0 ∧ y = 0) := rfl
@[simp] theorem State.withInf_cmd (x y : Nat) : (s.withInf x y).cmd = s.cmd := rfl
@[simp] theorem State.withInf_busy (x y : Nat) : (s.withInf x y).busy = s.busy := rfl
@[simp] theorem State.withInf_done (x y : Nat) : (s.withInf x y).done = s.done := rfl
@[simp] theorem State.withInf_err (x y : Nat) : (s.withInf x y).err = s.err := rfl
@[simp] theorem State.withInf_haz (x y : Nat) : (s.withInf x y).haz = s.haz := rfl
@[simp] theorem State.withInf_ieDone (x y : Nat) : (s.withInf x y).ieDone = s.ieDone := rfl
@[simp] theorem State.withInf_ieErr (x y : Nat) : (s.withInf x y).ieErr = s.ieErr := rfl
@[simp] theorem State.withInf_mlen (x y : Nat) : (s.withInf x y).mlen = s.mlen := rfl
@[simp] theorem State.withInf_plen (x y : Nat) : (s.withInf x y).plen = s.plen := rfl
@[simp] theorem State.withInf_blk (x y : Nat) : (s.withInf x y).blk = s.blk := rfl
@[simp] theorem State.withInf_hs (x y : Nat) : (s.withInf x y).hs = s.hs := rfl
@[simp] theorem State.withInf_hv (x y : Nat) : (s.withInf x y).hv = s.hv := rfl
@[simp] theorem State.withInf_h (x y : Nat) : (s.withInf x y).h = s.h := rfl
@[simp] theorem State.withInf_dg (x y : Nat) : (s.withInf x y).dg = s.dg := rfl
@[simp] theorem State.withInf_mb (x y : Nat) : (s.withInf x y).mb = s.mb := rfl
@[simp] theorem State.withInf_config (x y : Nat) : (s.withInf x y).config = s.config := rfl
@[simp] theorem State.withInf_schedule (x y : Nat) : (s.withInf x y).schedule = s.schedule := rfl
@[simp] theorem State.withInf_readData (x y : Nat) : (s.withInf x y).readData = s.readData := rfl
@[simp] theorem State.withInf_draws (x y : Nat) : (s.withInf x y).draws = s.draws := rfl

@[simp] theorem State.writePair_b (i : Reg) (p : Point) : (s.writePair i p).b = (s.b.set i (BitVec.ofNat 512 p.x)).set (i + 1 : Reg) (BitVec.ofNat 512 p.y) := rfl
@[simp] theorem State.writePair_z (i : Reg) (p : Point) : (s.writePair i p).z = s.z := rfl
@[simp] theorem State.writePair_inf (i : Reg) (p : Point) : (s.writePair i p).inf = s.inf := rfl
@[simp] theorem State.writePair_cmd (i : Reg) (p : Point) : (s.writePair i p).cmd = s.cmd := rfl
@[simp] theorem State.writePair_busy (i : Reg) (p : Point) : (s.writePair i p).busy = s.busy := rfl
@[simp] theorem State.writePair_done (i : Reg) (p : Point) : (s.writePair i p).done = s.done := rfl
@[simp] theorem State.writePair_err (i : Reg) (p : Point) : (s.writePair i p).err = s.err := rfl
@[simp] theorem State.writePair_haz (i : Reg) (p : Point) : (s.writePair i p).haz = s.haz := rfl
@[simp] theorem State.writePair_ieDone (i : Reg) (p : Point) : (s.writePair i p).ieDone = s.ieDone := rfl
@[simp] theorem State.writePair_ieErr (i : Reg) (p : Point) : (s.writePair i p).ieErr = s.ieErr := rfl
@[simp] theorem State.writePair_mlen (i : Reg) (p : Point) : (s.writePair i p).mlen = s.mlen := rfl
@[simp] theorem State.writePair_plen (i : Reg) (p : Point) : (s.writePair i p).plen = s.plen := rfl
@[simp] theorem State.writePair_blk (i : Reg) (p : Point) : (s.writePair i p).blk = s.blk := rfl
@[simp] theorem State.writePair_hs (i : Reg) (p : Point) : (s.writePair i p).hs = s.hs := rfl
@[simp] theorem State.writePair_hv (i : Reg) (p : Point) : (s.writePair i p).hv = s.hv := rfl
@[simp] theorem State.writePair_h (i : Reg) (p : Point) : (s.writePair i p).h = s.h := rfl
@[simp] theorem State.writePair_dg (i : Reg) (p : Point) : (s.writePair i p).dg = s.dg := rfl
@[simp] theorem State.writePair_mb (i : Reg) (p : Point) : (s.writePair i p).mb = s.mb := rfl
@[simp] theorem State.writePair_config (i : Reg) (p : Point) : (s.writePair i p).config = s.config := rfl
@[simp] theorem State.writePair_schedule (i : Reg) (p : Point) : (s.writePair i p).schedule = s.schedule := rfl
@[simp] theorem State.writePair_readData (i : Reg) (p : Point) : (s.writePair i p).readData = s.readData := rfl
@[simp] theorem State.writePair_draws (i : Reg) (p : Point) : (s.writePair i p).draws = s.draws := rfl

@[simp] theorem State.initHash_b (v : Variant) : (s.initHash v).b = s.b := rfl
@[simp] theorem State.initHash_z (v : Variant) : (s.initHash v).z = s.z := rfl
@[simp] theorem State.initHash_inf (v : Variant) : (s.initHash v).inf = s.inf := rfl
@[simp] theorem State.initHash_cmd (v : Variant) : (s.initHash v).cmd = s.cmd := rfl
@[simp] theorem State.initHash_busy (v : Variant) : (s.initHash v).busy = s.busy := rfl
@[simp] theorem State.initHash_done (v : Variant) : (s.initHash v).done = s.done := rfl
@[simp] theorem State.initHash_err (v : Variant) : (s.initHash v).err = s.err := rfl
@[simp] theorem State.initHash_haz (v : Variant) : (s.initHash v).haz = s.haz := rfl
@[simp] theorem State.initHash_ieDone (v : Variant) : (s.initHash v).ieDone = s.ieDone := rfl
@[simp] theorem State.initHash_ieErr (v : Variant) : (s.initHash v).ieErr = s.ieErr := rfl
@[simp] theorem State.initHash_mlen (v : Variant) : (s.initHash v).mlen = s.mlen := rfl
@[simp] theorem State.initHash_plen (v : Variant) : (s.initHash v).plen = 0 := rfl
@[simp] theorem State.initHash_blk (v : Variant) : (s.initHash v).blk = 0 := rfl
@[simp] theorem State.initHash_hs (v : Variant) : (s.initHash v).hs = .initialized := rfl
@[simp] theorem State.initHash_hv (v : Variant) : (s.initHash v).hv = v := rfl
@[simp] theorem State.initHash_h (v : Variant) : (s.initHash v).h = initialWords v := rfl
@[simp] theorem State.initHash_dg (v : Variant) : (s.initHash v).dg = Vector.replicate 64 0 := rfl
@[simp] theorem State.initHash_mb (v : Variant) : (s.initHash v).mb = s.mb := rfl
@[simp] theorem State.initHash_config (v : Variant) : (s.initHash v).config = s.config := rfl
@[simp] theorem State.initHash_schedule (v : Variant) : (s.initHash v).schedule = s.schedule := rfl
@[simp] theorem State.initHash_readData (v : Variant) : (s.initHash v).readData = s.readData := rfl
@[simp] theorem State.initHash_draws (v : Variant) : (s.initHash v).draws = s.draws := rfl

@[simp] theorem State.padMessage_b : (s.padMessage).b = s.b := rfl
@[simp] theorem State.padMessage_z : (s.padMessage).z = s.z := rfl
@[simp] theorem State.padMessage_inf : (s.padMessage).inf = s.inf := rfl
@[simp] theorem State.padMessage_cmd : (s.padMessage).cmd = s.cmd := rfl
@[simp] theorem State.padMessage_busy : (s.padMessage).busy = s.busy := rfl
@[simp] theorem State.padMessage_done : (s.padMessage).done = s.done := rfl
@[simp] theorem State.padMessage_err : (s.padMessage).err = s.err := rfl
@[simp] theorem State.padMessage_haz : (s.padMessage).haz = s.haz := rfl
@[simp] theorem State.padMessage_ieDone : (s.padMessage).ieDone = s.ieDone := rfl
@[simp] theorem State.padMessage_ieErr : (s.padMessage).ieErr = s.ieErr := rfl
@[simp] theorem State.padMessage_mlen : (s.padMessage).mlen = s.mlen := rfl
@[simp] theorem State.padMessage_plen : (s.padMessage).plen = BitVec.ofNat 32 (paddedLength s.hv s.mlen.toNat) := rfl
@[simp] theorem State.padMessage_blk : (s.padMessage).blk = 0 := rfl
@[simp] theorem State.padMessage_hs : (s.padMessage).hs = .padded := rfl
@[simp] theorem State.padMessage_hv : (s.padMessage).hv = s.hv := rfl
@[simp] theorem State.padMessage_h : (s.padMessage).h = s.h := rfl
@[simp] theorem State.padMessage_dg : (s.padMessage).dg = s.dg := rfl
@[simp] theorem State.padMessage_mb : (s.padMessage).mb = s.mb.writeBytes s.mlen.toNat (padding s.hv s.mlen.toNat) := rfl
@[simp] theorem State.padMessage_config : (s.padMessage).config = s.config := rfl
@[simp] theorem State.padMessage_schedule : (s.padMessage).schedule = s.schedule := rfl
@[simp] theorem State.padMessage_readData : (s.padMessage).readData = s.readData := rfl
@[simp] theorem State.padMessage_draws : (s.padMessage).draws = s.draws := rfl

@[simp] theorem State.compressBlock_b : (s.compressBlock).b = s.b := rfl
@[simp] theorem State.compressBlock_z : (s.compressBlock).z = s.z := rfl
@[simp] theorem State.compressBlock_inf : (s.compressBlock).inf = s.inf := rfl
@[simp] theorem State.compressBlock_cmd : (s.compressBlock).cmd = s.cmd := rfl
@[simp] theorem State.compressBlock_busy : (s.compressBlock).busy = s.busy := rfl
@[simp] theorem State.compressBlock_done : (s.compressBlock).done = s.done := rfl
@[simp] theorem State.compressBlock_err : (s.compressBlock).err = s.err := rfl
@[simp] theorem State.compressBlock_haz : (s.compressBlock).haz = s.haz := rfl
@[simp] theorem State.compressBlock_ieDone : (s.compressBlock).ieDone = s.ieDone := rfl
@[simp] theorem State.compressBlock_ieErr : (s.compressBlock).ieErr = s.ieErr := rfl
@[simp] theorem State.compressBlock_mlen : (s.compressBlock).mlen = s.mlen := rfl
@[simp] theorem State.compressBlock_plen : (s.compressBlock).plen = s.plen := rfl
@[simp] theorem State.compressBlock_blk : (s.compressBlock).blk = s.blk + 1 := rfl
@[simp] theorem State.compressBlock_hs : (s.compressBlock).hs = .processing := rfl
@[simp] theorem State.compressBlock_hv : (s.compressBlock).hv = s.hv := rfl
@[simp] theorem State.compressBlock_h : (s.compressBlock).h = compressWords s.hv s.mb s.blockOffset s.h := rfl
@[simp] theorem State.compressBlock_dg : (s.compressBlock).dg = s.dg := rfl
@[simp] theorem State.compressBlock_mb : (s.compressBlock).mb = s.mb := rfl
@[simp] theorem State.compressBlock_config : (s.compressBlock).config = s.config := rfl
@[simp] theorem State.compressBlock_schedule : (s.compressBlock).schedule = s.schedule := rfl
@[simp] theorem State.compressBlock_readData : (s.compressBlock).readData = s.readData := rfl
@[simp] theorem State.compressBlock_draws : (s.compressBlock).draws = s.draws := rfl

@[simp] theorem State.finalizeHash_b : (s.finalizeHash).b = s.b := rfl
@[simp] theorem State.finalizeHash_z : (s.finalizeHash).z = s.z := rfl
@[simp] theorem State.finalizeHash_inf : (s.finalizeHash).inf = s.inf := rfl
@[simp] theorem State.finalizeHash_cmd : (s.finalizeHash).cmd = s.cmd := rfl
@[simp] theorem State.finalizeHash_busy : (s.finalizeHash).busy = s.busy := rfl
@[simp] theorem State.finalizeHash_done : (s.finalizeHash).done = s.done := rfl
@[simp] theorem State.finalizeHash_err : (s.finalizeHash).err = s.err := rfl
@[simp] theorem State.finalizeHash_haz : (s.finalizeHash).haz = s.haz := rfl
@[simp] theorem State.finalizeHash_ieDone : (s.finalizeHash).ieDone = s.ieDone := rfl
@[simp] theorem State.finalizeHash_ieErr : (s.finalizeHash).ieErr = s.ieErr := rfl
@[simp] theorem State.finalizeHash_mlen : (s.finalizeHash).mlen = s.mlen := rfl
@[simp] theorem State.finalizeHash_plen : (s.finalizeHash).plen = s.plen := rfl
@[simp] theorem State.finalizeHash_blk : (s.finalizeHash).blk = s.blk := rfl
@[simp] theorem State.finalizeHash_hs : (s.finalizeHash).hs = .finalized := rfl
@[simp] theorem State.finalizeHash_hv : (s.finalizeHash).hv = s.hv := rfl
@[simp] theorem State.finalizeHash_h : (s.finalizeHash).h = s.h := rfl
@[simp] theorem State.finalizeHash_dg : (s.finalizeHash).dg = digestBuffer (serialize s.hv s.h) := rfl
@[simp] theorem State.finalizeHash_mb : (s.finalizeHash).mb = s.mb := rfl
@[simp] theorem State.finalizeHash_config : (s.finalizeHash).config = s.config := rfl
@[simp] theorem State.finalizeHash_schedule : (s.finalizeHash).schedule = s.schedule := rfl
@[simp] theorem State.finalizeHash_readData : (s.finalizeHash).readData = s.readData := rfl
@[simp] theorem State.finalizeHash_draws : (s.finalizeHash).draws = s.draws := rfl

@[simp] theorem State.takeReset_b : (s.takeReset).b = Vector.ofFn fun i => Config.freeBig s.draws i.val := rfl
@[simp] theorem State.takeReset_z : (s.takeReset).z = false := rfl
@[simp] theorem State.takeReset_inf : (s.takeReset).inf = false := rfl
@[simp] theorem State.takeReset_cmd : (s.takeReset).cmd = 0 := rfl
@[simp] theorem State.takeReset_busy : (s.takeReset).busy = false := rfl
@[simp] theorem State.takeReset_done : (s.takeReset).done = false := rfl
@[simp] theorem State.takeReset_err : (s.takeReset).err = .none := rfl
@[simp] theorem State.takeReset_haz : (s.takeReset).haz = false := rfl
@[simp] theorem State.takeReset_ieDone : (s.takeReset).ieDone = false := rfl
@[simp] theorem State.takeReset_ieErr : (s.takeReset).ieErr = false := rfl
@[simp] theorem State.takeReset_mlen : (s.takeReset).mlen = 0 := rfl
@[simp] theorem State.takeReset_plen : (s.takeReset).plen = 0 := rfl
@[simp] theorem State.takeReset_blk : (s.takeReset).blk = 0 := rfl
@[simp] theorem State.takeReset_hs : (s.takeReset).hs = .none := rfl
@[simp] theorem State.takeReset_hv : (s.takeReset).hv = .v20 := rfl
@[simp] theorem State.takeReset_h : (s.takeReset).h = Vector.ofFn fun k => Config.freeHashWord s.draws k.val := rfl
@[simp] theorem State.takeReset_dg : (s.takeReset).dg = Vector.ofFn fun k => Config.freeDigestByte s.draws k.val := rfl
@[simp] theorem State.takeReset_mb : (s.takeReset).mb = Memory.ofFn s.config.msgCap (Config.freeMessageByte s.draws) := rfl
@[simp] theorem State.takeReset_config : (s.takeReset).config = s.config := rfl
@[simp] theorem State.takeReset_schedule : (s.takeReset).schedule = s.schedule := rfl
@[simp] theorem State.takeReset_readData : (s.takeReset).readData = s.readData := rfl
@[simp] theorem State.takeReset_draws : (s.takeReset).draws = s.draws + 1 := rfl

/-- Reading the register just written (10_state R22). -/
@[simp] theorem State.readB_writeB_same (i : Reg) (v : Big) : (s.writeB i v).readB i = v := by
  simp [State.readB]

/-- Reading another register: no register has an alias (10_state R22). -/
theorem State.readB_writeB_other {i k : Reg} (v : Big) (h : k ≠ i) : (s.writeB i v).readB k = s.readB k := by
  have hne : i.val ≠ k.val := fun e => h (Fin.ext e.symm)
  simp [State.readB, hne]

/-- Reading a register of a state with the same registers. -/
theorem State.readB_congr {s t : State} (h : t.b = s.b) (k : Reg) : t.readB k = s.readB k := by
  simp [State.readB, h]

end Sys2Proof.Machine
end

