-- ==== Sys2Proof/Laws/Ops.lean ====
section
/-! SUPPORT. For each shared operation, everything it can answer; for each command, its outcomes with the
condition of each.  Later proofs cite these and unfold no meaning. -/

namespace Sys2Proof.Machine

variable {s t : State}

/-- A finished command answers exactly the completed state (40_control R119). -/
@[simp] theorem finish_next {u : State} : finish u = .next t ↔ t = u.complete := by
  simp [finish, eq_comm]

/-- A failed command answers exactly the error record (60_exceptions R281). -/
@[simp] theorem fail_next {e : ErrorCode} : fail e s = .next t ↔ t = s.raise e := by
  simp [fail, eq_comm]

/-- The end of a MAU command: one register, Z, completion (10_state R25). -/
theorem finishResidue_next {rd : Reg} {r : Nat} :
    finishResidue rd r s = .next t ↔ t = ((s.writeB rd (BitVec.ofNat 512 r)).withZ r).complete := finish_next

/-- The end of an ECU command: one pair, INF, completion (10_state R25). -/
theorem finishPoint_next {rd : Reg} {p : Point} :
    finishPoint rd p s = .next t ↔ t = ((s.writePair rd p).withInf p.x p.y).complete := finish_next

theorem execNop_next : execNop s = .next t ↔ t = s.complete := finish_next

theorem execLdc_next {rd : Reg} {c : ConstName} :
    execLdc rd c s = .next t ↔ t = (s.writeB rd (BitVec.ofNat 512 (romValue c))).complete := finish_next

/-- What REDUCE reads as its source (41_modarith R134). -/
def reduceSource (s : State) (ra : Reg) (signed : Bool) : Int := if signed then s.signedB ra else s.unsignedB ra

theorem execReduce_zero {rd ra rm : Reg} {signed : Bool} (h : s.unsignedB rm = 0) :
    execReduce rd ra rm signed s = fail .modulus s := if_pos h

theorem execReduce_pos {rd ra rm : Reg} {signed : Bool} (h : s.unsignedB rm ≠ 0) :
    execReduce rd ra rm signed s = finishResidue rd (reduce (reduceSource s ra signed) (s.unsignedB rm)) s := if_neg h

theorem execInvert_small {rd ra rm : Reg} (h : s.unsignedB rm < 2) : execInvert rd ra rm s = fail .modulus s := if_pos h

theorem execInvert_big {rd ra rm : Reg} (h : 2 ≤ s.unsignedB rm) :
    execInvert rd ra rm s = finishResidue rd (invert (s.unsignedB ra) (s.unsignedB rm)) s := if_neg (by omega)

theorem execModexp_zero {rd ra rb rm : Reg} (h : s.unsignedB rm = 0) : execModexp rd ra rb rm s = fail .modulus s := if_pos h

theorem execModexp_pos {rd ra rb rm : Reg} (h : s.unsignedB rm ≠ 0) :
    execModexp rd ra rb rm s = finishResidue rd (modexp (s.unsignedB ra) (s.unsignedB rb) (s.unsignedB rm)) s := if_neg h

theorem execModadd_zero {rd ra rb rm : Reg} (h : s.unsignedB rm = 0) : execModadd rd ra rb rm s = fail .modulus s := if_pos h

theorem execModadd_pos {rd ra rb rm : Reg} (h : s.unsignedB rm ≠ 0) :
    execModadd rd ra rb rm s = finishResidue rd (reduce ((s.unsignedB ra : Int) + s.unsignedB rb) (s.unsignedB rm)) s := if_neg h

theorem execModsub_zero {rd ra rb rm : Reg} (h : s.unsignedB rm = 0) : execModsub rd ra rb rm s = fail .modulus s := if_pos h

theorem execModsub_pos {rd ra rb rm : Reg} (h : s.unsignedB rm ≠ 0) :
    execModsub rd ra rb rm s = finishResidue rd (reduce ((s.unsignedB ra : Int) - s.unsignedB rb) (s.unsignedB rm)) s := if_neg h

theorem execModmul_zero {rd ra rb rm : Reg} (h : s.unsignedB rm = 0) : execModmul rd ra rb rm s = fail .modulus s := if_pos h

theorem execModmul_pos {rd ra rb rm : Reg} (h : s.unsignedB rm ≠ 0) :
    execModmul rd ra rb rm s = finishResidue rd (reduce ((s.unsignedB ra : Int) * s.unsignedB rb) (s.unsignedB rm)) s := if_neg h

theorem execHInit_next {v : Variant} : execHInit v s = .next t ↔ t = (s.initHash v).complete := finish_next

/-- The three outcomes of H_PAD (42_hash R171). -/
theorem execHPad_cases (s : State) :
    (s.hs ≠ .initialized ∧ execHPad s = fail .hstate s) ∨
    (s.hs = .initialized ∧ messageTooLong s.config.msgCap s.hv s.mlen.toNat = true ∧ execHPad s = fail .msglen s) ∨
    (s.hs = .initialized ∧ messageTooLong s.config.msgCap s.hv s.mlen.toNat = false ∧ execHPad s = finish s.padMessage) := by
  unfold execHPad
  by_cases h1 : s.hs = .initialized
  · cases h2 : messageTooLong s.config.msgCap s.hv s.mlen.toNat <;> simp [h1]
  · simp [h1]

/-- The four outcomes of H_COMPRESS (42_hash R173; log entry 10). -/
theorem execHCompress_cases (s : State) :
    ((s.hs ≠ .padded ∧ s.hs ≠ .processing) ∧ execHCompress s = fail .hstate s) ∨
    ((s.hs = .padded ∨ s.hs = .processing) ∧ s.plen.toNat ≤ s.blockOffset ∧ execHCompress s = fail .hstate s) ∨
    ((s.hs = .padded ∨ s.hs = .processing) ∧ s.blockOffset < s.plen.toNat ∧
      s.config.msgCap < s.blockOffset + blockBytes s.hv ∧
      execHCompress s = .fault (.messageBufferBound s.blockOffset)) ∨
    ((s.hs = .padded ∨ s.hs = .processing) ∧ s.blockOffset < s.plen.toNat ∧
      s.blockOffset + blockBytes s.hv ≤ s.config.msgCap ∧ execHCompress s = finish s.compressBlock) := by
  unfold execHCompress
  by_cases h1 : s.hs ≠ .padded ∧ s.hs ≠ .processing
  · exact .inl ⟨h1, if_pos h1⟩
  · have h1' : s.hs = .padded ∨ s.hs = .processing := by
      by_cases h : s.hs = .padded
      · exact .inl h
      · exact .inr (by_contra fun h' => h1 ⟨h, h'⟩)
    rw [if_neg h1]
    by_cases h2 : s.plen.toNat ≤ s.blockOffset
    · exact .inr (.inl ⟨h1', h2, if_pos h2⟩)
    · rw [if_neg h2]
      by_cases h3 : s.config.msgCap < s.blockOffset + blockBytes s.hv
      · exact .inr (.inr (.inl ⟨h1', by omega, h3, if_pos h3⟩))
      · exact .inr (.inr (.inr ⟨h1', by omega, by omega, if_neg h3⟩))

/-- The two outcomes of H_FINAL (42_hash R176). -/
theorem execHFinal_cases (s : State) :
    ((s.hs ≠ .processing ∨ s.blockOffset ≠ s.plen.toNat) ∧ execHFinal s = fail .hstate s) ∨
    (s.hs = .processing ∧ s.blockOffset = s.plen.toNat ∧ execHFinal s = finish s.finalizeHash) := by
  unfold execHFinal
  by_cases h : s.hs ≠ .processing ∨ s.blockOffset ≠ s.plen.toNat
  · exact .inl ⟨h, if_pos h⟩
  · refine .inr ⟨by_contra fun h' => h (.inl h'), by_contra fun h' => h (.inr h'), if_neg h⟩

/-- The two outcomes of H_DIGEST (42_hash R177). -/
theorem execHDigest_cases (v : Variant) (s : State) :
    (messageTooLong s.config.msgCap v s.mlen.toNat = true ∧ execHDigest v s = fail .msglen s) ∨
    (messageTooLong s.config.msgCap v s.mlen.toNat = false ∧ execHDigest v s = finish (s.digestMessage v)) := by
  unfold execHDigest
  cases messageTooLong s.config.msgCap v s.mlen.toNat <;> simp

/-- The outcomes of a two-point command: illegal pair, coordinate out of range, or the point (43_weierstrass
R204, 44_edwards R234). -/
theorem execWAdd_cases (rd ra rb : Reg) (s : State) :
    ((Instr.wAdd rd ra rb).wf = false ∧ execWAdd rd ra rb s = fail .illegal s) ∨
    ((Instr.wAdd rd ra rb).wf = true ∧
      ((s.readPair ra).inField Config.w.prime && (s.readPair rb).inField Config.w.prime) = false ∧
      execWAdd rd ra rb s = fail .range s) ∨
    ((Instr.wAdd rd ra rb).wf = true ∧
      ((s.readPair ra).inField Config.w.prime && (s.readPair rb).inField Config.w.prime) = true ∧
      execWAdd rd ra rb s = finishPoint rd (wSum Config.w (s.readPair ra) (s.readPair rb)) s) := by
  unfold execWAdd
  cases (Instr.wAdd rd ra rb).wf <;>
    cases (s.readPair ra).inField Config.w.prime && (s.readPair rb).inField Config.w.prime <;> simp

theorem execWDbl_cases (rd ra : Reg) (s : State) :
    ((Instr.wDbl rd ra).wf = false ∧ execWDbl rd ra s = fail .illegal s) ∨
    ((Instr.wDbl rd ra).wf = true ∧ (s.readPair ra).inField Config.w.prime = false ∧
      execWDbl rd ra s = fail .range s) ∨
    ((Instr.wDbl rd ra).wf = true ∧ (s.readPair ra).inField Config.w.prime = true ∧
      execWDbl rd ra s = finishPoint rd (wDouble Config.w (s.readPair ra)) s) := by
  unfold execWDbl
  cases (Instr.wDbl rd ra).wf <;> cases (s.readPair ra).inField Config.w.prime <;> simp

theorem execWMul_cases (rd ra rb : Reg) (s : State) :
    ((Instr.wMul rd ra rb).wf = false ∧ execWMul rd ra rb s = fail .illegal s) ∨
    ((Instr.wMul rd ra rb).wf = true ∧ (s.readPair ra).inField Config.w.prime = false ∧
      execWMul rd ra rb s = fail .range s) ∨
    ((Instr.wMul rd ra rb).wf = true ∧ (s.readPair ra).inField Config.w.prime = true ∧
      execWMul rd ra rb s = finishPoint rd (wProduct Config.w (s.readPair ra) (s.unsignedB rb)) s) := by
  unfold execWMul
  cases (Instr.wMul rd ra rb).wf <;> cases (s.readPair ra).inField Config.w.prime <;> simp

theorem execEAdd_cases (rd ra rb : Reg) (s : State) :
    ((Instr.eAdd rd ra rb).wf = false ∧ execEAdd rd ra rb s = fail .illegal s) ∨
    ((Instr.eAdd rd ra rb).wf = true ∧
      ((s.readPair ra).inField Config.e.prime && (s.readPair rb).inField Config.e.prime) = false ∧
      execEAdd rd ra rb s = fail .range s) ∨
    ((Instr.eAdd rd ra rb).wf = true ∧
      ((s.readPair ra).inField Config.e.prime && (s.readPair rb).inField Config.e.prime) = true ∧
      execEAdd rd ra rb s = finishPoint rd (eSum Config.e (s.readPair ra) (s.readPair rb)) s) := by
  unfold execEAdd
  cases (Instr.eAdd rd ra rb).wf <;>
    cases (s.readPair ra).inField Config.e.prime && (s.readPair rb).inField Config.e.prime <;> simp

theorem execEMul_cases (rd ra rb : Reg) (s : State) :
    ((Instr.eMul rd ra rb).wf = false ∧ execEMul rd ra rb s = fail .illegal s) ∨
    ((Instr.eMul rd ra rb).wf = true ∧ (s.readPair ra).inField Config.e.prime = false ∧
      execEMul rd ra rb s = fail .range s) ∨
    ((Instr.eMul rd ra rb).wf = true ∧ (s.readPair ra).inField Config.e.prime = true ∧
      execEMul rd ra rb s = finishPoint rd (eProduct Config.e (s.readPair ra) (s.unsignedB rb)) s) := by
  unfold execEMul
  cases (Instr.eMul rd ra rb).wf <;> cases (s.readPair ra).inField Config.e.prime <;> simp

end Sys2Proof.Machine
end

