-- ==== Sys2Proof/Laws/PerInstr.lean ====
section
/-! SUPPORT. Facts about every command as syntax, one lemma per constructor. -/

namespace Sys2Proof.Laws.OpcodeField

/-- The encoder puts the command's opcode in bits [31:24] (30_encoding R91, R96). -/
def Statement (i : Instr) : Prop := fieldOp (encode i) = i.opcode

/-- The opcode field of a packed word whose fields fit. -/
theorem fieldOp_packWord (op : Nat) (rd ra rb rm : Reg) (fn : Nat) (ho : op < 256) (hf : fn < 256) :
    fieldOp (packWord op rd ra rb rm fn) = op := by
  have h1 := rd.isLt
  have h2 := ra.isLt
  have h3 := rb.isLt
  have h4 := rm.isLt
  simp only [fieldOp, bits, packWord, BitVec.toNat_ofNat]
  omega

theorem nop : Statement .nop := fieldOp_packWord _ _ _ _ _ _ (by decide) (by decide)
theorem ldc (rd : Reg) (c : ConstName) : Statement (.ldc rd c) :=
  fieldOp_packWord _ _ _ _ _ _ (by simp [Instr.opcode]) (by cases c <;> decide)
theorem reduce (rd ra rm : Reg) (signed : Bool) : Statement (.reduce rd ra rm signed) :=
  fieldOp_packWord _ _ _ _ _ _ (by simp [Instr.opcode]) (by cases signed <;> decide)
theorem invert (rd ra rm : Reg) : Statement (.invert rd ra rm) :=
  fieldOp_packWord _ _ _ _ _ _ (by simp [Instr.opcode]) (by decide)
theorem modexp (rd ra rb rm : Reg) : Statement (.modexp rd ra rb rm) :=
  fieldOp_packWord _ _ _ _ _ _ (by simp [Instr.opcode]) (by decide)
theorem modadd (rd ra rb rm : Reg) : Statement (.modadd rd ra rb rm) :=
  fieldOp_packWord _ _ _ _ _ _ (by simp [Instr.opcode]) (by decide)
theorem modsub (rd ra rb rm : Reg) : Statement (.modsub rd ra rb rm) :=
  fieldOp_packWord _ _ _ _ _ _ (by simp [Instr.opcode]) (by decide)
theorem modmul (rd ra rb rm : Reg) : Statement (.modmul rd ra rb rm) :=
  fieldOp_packWord _ _ _ _ _ _ (by simp [Instr.opcode]) (by decide)
theorem hInit (v : Variant) : Statement (.hInit v) :=
  fieldOp_packWord _ _ _ _ _ _ (by simp [Instr.opcode]) (by cases v <;> decide)
theorem hPad : Statement .hPad := fieldOp_packWord _ _ _ _ _ _ (by decide) (by decide)
theorem hCompress : Statement .hCompress := fieldOp_packWord _ _ _ _ _ _ (by decide) (by decide)
theorem hFinal : Statement .hFinal := fieldOp_packWord _ _ _ _ _ _ (by decide) (by decide)
theorem hDigest (v : Variant) : Statement (.hDigest v) :=
  fieldOp_packWord _ _ _ _ _ _ (by simp [Instr.opcode]) (by cases v <;> decide)
theorem wAdd (rd ra rb : Reg) : Statement (.wAdd rd ra rb) :=
  fieldOp_packWord _ _ _ _ _ _ (by simp [Instr.opcode]) (by decide)
theorem wDbl (rd ra : Reg) : Statement (.wDbl rd ra) :=
  fieldOp_packWord _ _ _ _ _ _ (by simp [Instr.opcode]) (by decide)
theorem wMul (rd ra rb : Reg) : Statement (.wMul rd ra rb) :=
  fieldOp_packWord _ _ _ _ _ _ (by simp [Instr.opcode]) (by decide)
theorem eAdd (rd ra rb : Reg) : Statement (.eAdd rd ra rb) :=
  fieldOp_packWord _ _ _ _ _ _ (by simp [Instr.opcode]) (by decide)
theorem eMul (rd ra rb : Reg) : Statement (.eMul rd ra rb) :=
  fieldOp_packWord _ _ _ _ _ _ (by simp [Instr.opcode]) (by decide)

end Sys2Proof.Laws.OpcodeField
end

