-- ==== Sys2Proof/Laws/Step.lean ====
section
/-! SUPPORT. What a step can do: the inversion lemma of `step`, and that of each kind of bus write. -/

namespace Sys2Proof.Machine

/-- The engine's move: idle, an illegal word, or a command (40_control R119). -/
theorem engineMove_cases (s : State) :
    (s.busy = false ∧ engineMove s = .next s) ∨
    (s.busy = true ∧ (∃ e, decode s.cmd = .error e) ∧ engineMove s = fail .illegal s) ∨
    (s.busy = true ∧ ∃ i, decode s.cmd = .ok i ∧ engineMove s = exec i s) := by
  unfold engineMove runCommand State.commandWord
  cases hb : s.busy
  · exact .inl ⟨rfl, by simp⟩
  · cases hd : decode s.cmd with
    | error e => exact .inr (.inl ⟨rfl, ⟨e, rfl⟩, by simp⟩)
    | ok i => exact .inr (.inr ⟨rfl, i, rfl, by simp⟩)

/-- A step is the engine's move when nothing is scheduled, else the next scheduled move. -/
theorem step_cases (s : State) :
    (s.schedule = [] ∧ step s = engineMove s) ∨
    (∃ rest, s.schedule = .engine :: rest ∧ step s = engineMove { s with schedule := rest }) ∨
    (∃ a rest, s.schedule = .bus a :: rest ∧ step s = .next (State.busAccess { s with schedule := rest } a)) ∨
    (∃ rest, s.schedule = .hardReset :: rest ∧ step s = .next (State.takeReset { s with schedule := rest })) := by
  unfold step
  cases h : s.schedule with
  | nil => exact .inl ⟨rfl, rfl⟩
  | cons m rest =>
    cases m with
    | bus a => exact .inr (.inr (.inl ⟨a, rest, rfl, rfl⟩))
    | engine => exact .inr (.inl ⟨rest, rfl, rfl⟩)
    | hardReset => exact .inr (.inr (.inr ⟨rest, rfl, rfl⟩))

/-- A read changes the word returned to the host and, while BUSY, the draw counter (20_memory R67, 70_reset R317). -/
theorem busRead_cases (s : State) (word : Nat) :
    (s.busy = true ∧ (target s.config word).owned = true ∧
      s.busRead word = { s with readData := Config.freeReadWord s.draws, draws := s.draws + 1 }) ∨
    ((s.busy = false ∨ (target s.config word).owned = false) ∧
      s.busRead word = { s with readData := s.windowWord (target s.config word) }) := by
  unfold State.busRead
  cases hb : s.busy <;> cases ho : (target s.config word).owned <;> simp [ho]

/-- A CMD write is dropped with HAZ or accepted (10_state R28). -/
theorem writeCmd_cases (s : State) (w : Word) :
    ((s.busy = true ∨ s.err ≠ .none) ∧ s.writeCmd w = s.hazard) ∨
    (s.busy = false ∧ s.err = .none ∧ s.writeCmd w = s.accept w) := by
  unfold State.writeCmd
  by_cases h : s.busy = true ∨ s.err ≠ .none
  · exact .inl ⟨h, if_pos h⟩
  · refine .inr ⟨?_, ?_, if_neg h⟩
    · exact Bool.eq_false_iff.2 fun h' => h (.inl h')
    · exact by_contra fun h' => h (.inr h')

end Sys2Proof.Machine
end

