-- ==== Sys2Proof/Tests/Slice0.lean ====
section
/-! SUPPORT. Tests.  Expected values are the spec's own: the worked encodings of 30_encoding R105 and the syntax
table of R103, the examples of the command rules, the vectors of 95_test_vectors.  The last part shows, for every
obligation with hypotheses, a concrete state and operands that meet them. -/

open Sys2Proof Sys2Proof.Machine Sys2Proof.Claims

namespace Sys2Proof.Tests

set_option Elab.async false

/-- An idle engine after reset with these registers: `B[0], B[1], …` from the list, the rest 0. -/
def withRegs (vs : List Nat) : State :=
  { State.reset with b := Vector.ofFn fun i => BitVec.ofNat 512 (vs.getD i.val 0) }

/-- The same with a command in execution. -/
def running (vs : List Nat) : State := { withRegs vs with busy := true }

/-- A command in execution on a message of `len` bytes, the first of them given, in hash state `hs` of variant `v`. -/
def hashing (v : Variant) (hs : HashState) (len : Nat) (bytes : List Byte) : State :=
  { State.reset with
    busy := true
    hv := v
    hs := hs
    h := initialWords v
    mlen := BitVec.ofNat 32 len
    mb := Memory.writeBytes [] 0 bytes }

/-- The message `abc` of R171, R173 and vector H2. -/
def abc : List Byte := [0x61, 0x62, 0x63]

/-- `abc` padded for V32, as R171 prints it, with every block still to compress. -/
def abcPadded : State :=
  { hashing .v32 .padded 3 (abc ++ [0x80] ++ List.replicate 59 0 ++ [0x18]) with plen := 64 }

/-- The words of H that R173 prints after the one block of `abc` under V32. -/
def abcWords : Vector HashWord 8 :=
  #v[0xBA7816BF, 0x8F01CFEA, 0x414140DE, 0x5DAE2223, 0xB00361A3, 0x96177A9C, 0xB410FF61, 0xF20015AD]

/-- `abc` with its one block compressed. -/
def abcCompressed : State := { abcPadded with hs := .processing, blk := 1, h := abcWords }

/-- The command answers a next state that satisfies `p`. -/
def answers (i : Instr) (s : State) (p : State → Bool) : Bool :=
  match exec i s with
  | .next t => p t
  | .fault _ => false
  | .refused _ => false

/-- One step answers a next state that satisfies `p`. -/
def steps (s : State) (p : State → Bool) : Bool :=
  match step s with
  | .next t => p t
  | .fault _ => false
  | .refused _ => false

/-! ## Well-formedness: each check refuses an ill-formed term (R100) -/

theorem test_wf_refuses_pair_fifteen_w_add :
    (Instr.wAdd 15 0 0).wf = false ∧ (Instr.wAdd 0 15 0).wf = false ∧ (Instr.wAdd 0 0 15).wf = false ∧
    (Instr.wAdd 14 14 14).wf = true := by decide

theorem test_wf_refuses_pair_fifteen_w_dbl :
    (Instr.wDbl 15 0).wf = false ∧ (Instr.wDbl 0 15).wf = false ∧ (Instr.wDbl 14 14).wf = true := by decide

theorem test_wf_refuses_pair_fifteen_w_mul :
    (Instr.wMul 15 0 0).wf = false ∧ (Instr.wMul 0 15 0).wf = false ∧ (Instr.wMul 14 14 15).wf = true := by decide

theorem test_wf_refuses_pair_fifteen_e_add :
    (Instr.eAdd 15 0 0).wf = false ∧ (Instr.eAdd 0 15 0).wf = false ∧ (Instr.eAdd 0 0 15).wf = false ∧
    (Instr.eAdd 14 14 14).wf = true := by decide

theorem test_wf_refuses_pair_fifteen_e_mul :
    (Instr.eMul 15 0 0).wf = false ∧ (Instr.eMul 0 15 0).wf = false ∧ (Instr.eMul 14 14 15).wf = true := by decide

/-! ## Decoding: words written out from R91, R96, R103 and R105 -/

/-- op 00. -/
theorem test_decode_nop : decode 0b00000000_0000_0000_0000_0000_00000000 = .ok .nop := by decide +kernel
/-- op 01, rd 3, fn 0x13 (R105). -/
theorem test_decode_ldc : decode 0b00000001_0011_0000_0000_0000_00010011 = .ok (.ldc 3 .egy) := by decide +kernel
/-- op 10, rd 2, ra 5, rm 1, S 1 (R105). -/
theorem test_decode_reduce : decode 0b00010000_0010_0101_0000_0001_00000001 = .ok (.reduce 2 5 1 true) := by
  decide +kernel
/-- op 11, rd 2, ra 0, rm 1 (R105). -/
theorem test_decode_invert : decode 0b00010001_0010_0000_0000_0001_00000000 = .ok (.invert 2 0 1) := by decide +kernel
/-- op 12, rd 3, ra 0, rb 1, rm 2 (the example of R136). -/
theorem test_decode_modexp : decode 0b00010010_0011_0000_0001_0010_00000000 = .ok (.modexp 3 0 1 2) := by
  decide +kernel
/-- op 13, rd 15, ra 14, rb 13, rm 12. -/
theorem test_decode_modadd : decode 0b00010011_1111_1110_1101_1100_00000000 = .ok (.modadd 15 14 13 12) := by
  decide +kernel
/-- op 14, rd 1, ra 2, rb 4, rm 8. -/
theorem test_decode_modsub : decode 0b00010100_0001_0010_0100_1000_00000000 = .ok (.modsub 1 2 4 8) := by
  decide +kernel
/-- op 15, rd 3, ra 0, rb 2, rm 1 (R105). -/
theorem test_decode_modmul : decode 0b00010101_0011_0000_0010_0001_00000000 = .ok (.modmul 3 0 2 1) := by
  decide +kernel
/-- op 20, variant 1 (R105). -/
theorem test_decode_h_init : decode 0b00100000_0000_0000_0000_0000_00000001 = .ok (.hInit .v32) := by decide +kernel
/-- op 21, 22, 23 (R103). -/
theorem test_decode_h_pad : decode 0b00100001_0000_0000_0000_0000_00000000 = .ok .hPad := by decide +kernel
theorem test_decode_h_compress : decode 0b00100010_0000_0000_0000_0000_00000000 = .ok .hCompress := by decide +kernel
theorem test_decode_h_final : decode 0b00100011_0000_0000_0000_0000_00000000 = .ok .hFinal := by decide +kernel
/-- op 24, variant 2 (R105). -/
theorem test_decode_h_digest : decode 0b00100100_0000_0000_0000_0000_00000010 = .ok (.hDigest .v64) := by
  decide +kernel
/-- op 30, rd 6, ra 6, rb 12 (R105). -/
theorem test_decode_w_add : decode 0b00110000_0110_0110_1100_0000_00000000 = .ok (.wAdd 6 6 12) := by decide +kernel
/-- op 31, rd 2, ra 0 (R105). -/
theorem test_decode_w_dbl : decode 0b00110001_0010_0000_0000_0000_00000000 = .ok (.wDbl 2 0) := by decide +kernel
/-- op 32, rd 4, ra 2, scalar 15 (R100: the scalar register may be 15). -/
theorem test_decode_w_mul : decode 0b00110010_0100_0010_1111_0000_00000000 = .ok (.wMul 4 2 15) := by decide +kernel
/-- op 40, rd 4, ra 2, rb 2 (the example of R234). -/
theorem test_decode_e_add : decode 0b01000000_0100_0010_0010_0000_00000000 = .ok (.eAdd 4 2 2) := by decide +kernel
/-- op 42, rd 4, ra 2, scalar 0 (R105). -/
theorem test_decode_e_mul : decode 0b01000010_0100_0010_0000_0000_00000000 = .ok (.eMul 4 2 0) := by decide +kernel
/-- The illegal words of R105, and an unassigned opcode at each end of the gaps of R99. -/
theorem test_decode_rejects_by_name :
    decode 0x00000001 = .error .reservedBits ∧ decode 0x20000003 = .error .variantNumber ∧
    decode 0x310F0000 = .error .pairIndex ∧ decode 0x41024000 = .error .unassignedOpcode ∧
    decode 0x01000005 = .error .constantIndex ∧ decode 0x11201100 = .error .reservedBits ∧
    decode 0x02000000 = .error .unassignedOpcode ∧ decode 0xFF000000 = .error .unassignedOpcode := by decide +kernel
/-- R103: the text of a command. -/
theorem test_asm_of_reduce_signed : (Instr.reduce 2 5 1 true).asm = "REDUCE.S B2, B5, B1" := by decide +kernel

/-! ## One step of each command -/

theorem test_nop_sets_done : answers .nop (running []) (fun t => t == { withRegs [] with done := true }) = true := by
  decide +kernel

/-- R121. -/
theorem test_ldc_loads_wn :
    answers (.ldc 1 .wn) (running []) (fun t =>
      t.readB 1 == 0xFFFFFFFFFFFFFFFFFFFFFFFFFFFFFFFEBAAEDCE6AF48A03BBFD25E8CD0364141 && t.readB 0 == 0) = true := by
  decide +kernel

/-- R134: 100 mod 7. -/
theorem test_reduce_hundred_mod_seven :
    answers (.reduce 2 0 1 false) (running [100, 7]) (fun t => t.readB 2 == 2 && !t.z) = true := by decide +kernel

/-- R134: `2^512 - 1` is -1 for REDUCE.S and the positive number for REDUCE. -/
theorem test_reduce_signed_and_unsigned :
    answers (.reduce 2 0 1 true) (running [2 ^ 512 - 1, 7]) (fun t => t.readB 2 == 6) = true ∧
    answers (.reduce 2 0 1 false) (running [2 ^ 512 - 1, 7]) (fun t => t.readB 2 == 3) = true := by decide +kernel

/-- R135: the inverse of 3 modulo 7. -/
theorem test_invert_three_mod_seven :
    answers (.invert 2 0 1) (running [3, 7]) (fun t => t.readB 2 == 5 && !t.z) = true := by decide +kernel

/-- R135, R141: modulus 1 is E_MODULUS, and 0 modulo a prime above 2 gives 0 with Z. -/
theorem test_invert_edges :
    answers (.invert 2 0 1) (running [3, 1]) (fun t => t == { withRegs [3, 1] with err := .modulus }) = true ∧
    answers (.invert 2 0 1) (running [14, 7]) (fun t => t.readB 2 == 0 && t.z) = true := by decide +kernel

/-- R136: `2^10 mod 1000`. -/
theorem test_modexp_example :
    answers (.modexp 3 0 1 2) (running [2, 10, 1000]) (fun t => t.readB 3 == 24) = true := by decide +kernel

/-- R133: `0^0` is 1, and 0 modulo 1. -/
theorem test_modexp_zero_to_the_zero :
    answers (.modexp 3 0 1 2) (running [0, 0, 5]) (fun t => t.readB 3 == 1) = true ∧
    answers (.modexp 3 0 1 2) (running [0, 0, 1]) (fun t => t.readB 3 == 0 && t.z) = true := by decide +kernel

/-- R137: the sum does not wrap. -/
theorem test_modadd_exact_sum :
    answers (.modadd 2 0 0 1) (running [Config.w.prime - 1, Config.w.prime])
      (fun t => t.unsignedB 2 == Config.w.prime - 2) = true := by decide +kernel

/-- R138: 0 minus 1. -/
theorem test_modsub_negative_difference :
    answers (.modsub 3 0 1 2) (running [0, 1, Config.w.prime])
      (fun t => t.unsignedB 3 == Config.w.prime - 1) = true := by decide +kernel

/-- R139: the square of `2^512 - 1` modulo WP. -/
theorem test_modmul_exact_product :
    answers (.modmul 1 0 0 1) (running [2 ^ 512 - 1, Config.w.prime])
      (fun t => t.readB 1 == 0x100000F44005763C4DE57CB5423346400) = true := by decide +kernel

/-- R170. -/
theorem test_h_init_v20 :
    answers (.hInit .v20) (hashing .v64 .finalized 3 abc) (fun t =>
      t.h == #v[0x67452301, 0xEFCDAB89, 0x98BADCFE, 0x10325476, 0xC3D2E1F0, 0, 0, 0] &&
      t.hs == .initialized && t.hv == .v20) = true := by decide +kernel

/-- R171: the padded `abc`. -/
theorem test_h_pad_abc :
    answers .hPad (hashing .v32 .initialized 3 abc) (fun t =>
      t.mb.readBytes 0 64 == abc ++ [0x80] ++ List.replicate 59 0 ++ [0x18] && t.plen == 64) = true := by decide +kernel

/-- R171: with `MSG_CAP = 4096` 4087 bytes are the longest message for V32. -/
theorem test_h_pad_longest_message :
    answers .hPad (hashing .v32 .initialized 4087 []) (fun t => t.plen == 4096 && t.hs == .padded) = true ∧
    answers .hPad (hashing .v32 .initialized 4088 []) (fun t => t.err == .msglen && t.hs == .initialized) = true := by
  decide +kernel

/-- R173. -/
theorem test_h_compress_abc :
    answers .hCompress abcPadded (fun t => t.h == abcWords && t.blk == 1 && t.hs == .processing) = true := by
  decide +kernel

/-- R173: every block already compressed. -/
theorem test_h_compress_no_block_left :
    answers .hCompress abcCompressed (fun t => t == { abcCompressed with busy := false, err := .hstate }) = true := by
  decide +kernel

/-- R176. -/
theorem test_h_final_abc :
    answers .hFinal abcCompressed (fun t =>
      t.dg.toList.take 32 == beBytes 32 0xba7816bf8f01cfea414140de5dae2223b00361a396177a9cb410ff61f20015ad &&
      t.dg.toList.drop 32 == List.replicate 32 0 && t.hs == .finalized) = true := by decide +kernel

/-- R177: the empty message under V20. -/
theorem test_h_digest_empty_v20 :
    answers (.hDigest .v20) (running []) (fun t =>
      t.dg.toList.take 20 == beBytes 20 0xda39a3ee5e6b4b0d3255bfef95601890afd80709 && t.blk == 1) = true := by
  decide +kernel

/-- R204: 2G + G = 3G, the operands of R207. -/
theorem test_w_add_two_g_plus_g :
    answers (.wAdd 6 2 4) (running [0, 0,
        0xC6047F9441ED7D6D3045406E95C07CD85C778E4B8CEF3CA7ABAC09B95C709EE5,
        0x1AE168FEA63DC339A3C58419466CEAEEF7F632653266D0E1236431A950CFE52A, Config.w.gx, Config.w.gy])
      (fun t =>
        t.readB 6 == 0xF9308A019258C31049344F85F89D5229B531C845836F99B08601F113BCE036F9 &&
        t.readB 7 == 0x388F7B0F632DE8140FE337E62A37F3566500A99934C2231B6CB9FD7584B8E672 && !t.inf) = true := by
  decide +kernel

/-- R201: a coordinate equal to WP is out of range, WP - 1 is not. -/
theorem test_w_add_range :
    answers (.wAdd 2 0 0) (running [0, Config.w.prime]) (fun t => t.err == .range && t.readB 2 == 0) = true ∧
    answers (.wAdd 2 0 0) (running [0, Config.w.prime - 1]) (fun t => t.err == .none && t.done) = true := by
  decide +kernel

/-- R205: the double of G. -/
theorem test_w_dbl_g :
    answers (.wDbl 4 2) (running [0, 0, Config.w.gx, Config.w.gy]) (fun t =>
      t.readB 4 == 0xC6047F9441ED7D6D3045406E95C07CD85C778E4B8CEF3CA7ABAC09B95C709EE5 &&
      t.readB 5 == 0x1AE168FEA63DC339A3C58419466CEAEEF7F632653266D0E1236431A950CFE52A) = true := by decide +kernel

/-- R206: 5G. -/
theorem test_w_mul_five :
    answers (.wMul 4 2 0) (running [5, 0, Config.w.gx, Config.w.gy]) (fun t =>
      t.readB 4 == 0x2F8BDE4D1A07209355B4A7250A5C5128E88B84BDDC619AB7CBA8D569B240EFE4 &&
      t.readB 5 == 0xD8AC222636E5E3D6D4DBA9DDA6C9C426F788271BAB0D6840DCA87D3AA6AC62D6) = true := by decide +kernel

/-- R206, R315: scalar 0 in register 15 gives the sentinel with INF; the destination overlaps the base. -/
theorem test_w_mul_zero_scalar :
    answers (.wMul 3 2 15) (running [0, 0, Config.w.gx, Config.w.gy])
      (fun t => t.readB 3 == 0 && t.readB 4 == 0 && t.inf && t.unsignedB 2 == Config.w.gx) = true := by decide +kernel

/-- R234: G + G on the Edwards curve. -/
theorem test_e_add_g_plus_g :
    answers (.eAdd 4 2 2) (running [0, 0, Config.e.gx, Config.e.gy]) (fun t =>
      t.readB 4 == 0x36AB384C9F5A046C3D043B7D1833E7AC080D8E4515D7A45F83C5A14E2843CE0E &&
      t.readB 5 == 0x2260CDF3092329C21DA25EE8C9A21F5697390F51643851560E5F46AE6AF8A3C9) = true := by decide +kernel

/-- R231: a coordinate between EP and WP is out of range for the Edwards curve. -/
theorem test_e_add_range :
    answers (.eAdd 4 2 2) (running [0, 0, Config.e.prime, 1]) (fun t => t.err == .range && !t.done) = true := by
  decide +kernel

/-- R235: 5G. -/
theorem test_e_mul_five :
    answers (.eMul 4 2 0) (running [5, 0, Config.e.gx, Config.e.gy]) (fun t =>
      t.readB 4 == 0x49FDA73EADE3587BFCEF7CF7D12DA5DE5C2819F93E1BE1A591409CC0322EF233 &&
      t.readB 5 == 0x5F4825B298FEAE6FE02C6E148992466631282ECA89430B5D10D21F83D676C8ED) = true := by decide +kernel

/-- R237: `(0, 1)` times an even scalar is the sentinel. -/
theorem test_e_mul_neutral_even :
    answers (.eMul 4 2 0) (running [2, 0, 0, 1]) (fun t => t.readB 4 == 0 && t.readB 5 == 0 && t.inf) = true := by
  decide +kernel

/-! ## The step, the bus, the error and its return -/

/-- The word the host writes in `withFetchWord` is the command the next step runs (R119). -/
theorem test_step_runs_placed_word :
    steps (State.reset.withFetchWord 32 0x01100001) (fun t => t.unsignedB 1 == Config.w.order && t.done) = true := by
  decide +kernel

/-- R281, R282, R288: an illegal word records code 1, the next CMD write is lost, CLRERR clears ERR and HAZ. -/
theorem test_error_blocks_until_cleared :
    steps (State.reset.withFetchWord 32 0x20000003) (fun t => t.err == .illegal && !t.busy && !t.done) = true ∧
    steps { State.reset with err := .illegal, schedule := hostWriteCmd 0 } (fun t => t.haz && !t.busy) = true ∧
    steps { State.reset with err := .illegal, haz := true, schedule := hostWriteCtrl 2 }
      (fun t => t.err == .none && !t.haz) = true := by decide +kernel

/-- R71, R74: a byte written by the host is read back in its own lane, the first byte in the lowest. -/
theorem test_message_byte_lanes :
    steps { State.reset with schedule := hostWriteMb 5 0xAB } (fun t => t.mb == [(5, 0xAB)]) = true ∧
    steps { State.reset with mb := [(4, 1), (5, 2), (6, 3), (7, 4)], schedule := hostReadMb 6 }
      (fun t => t.readData == 0x04030201) = true := by decide +kernel

/-- R27, R65: ID and a reserved offset. -/
theorem test_read_id_and_reserved :
    steps { State.reset with schedule := [.bus (.read 0)] } (fun t => t.readData == 0x43504501) = true ∧
    steps { State.reset with schedule := [.bus (.read 0x400)], mb := [(0, 7)] } (fun t => t.readData == 7) = true ∧
    steps { State.reset with schedule := [.bus (.read 0x3FF)] } (fun t => t.readData == 0) = true := by decide +kernel

theorem test_reset_memory_wf : State.reset.mb.wf = true := rfl

/-! ## Witnesses: for each obligation with hypotheses, a state and operands that meet them, clause by clause -/

theorem running_inv (vs : List Nat) : (running vs).Inv where
  canonical := rfl
  bounded := rfl
  busyClear _ := ⟨rfl, rfl⟩
  doneClear h := nomatch h
  noMessage _ := ⟨rfl, rfl⟩
  paddedStart h := nomatch h
  processingStarted h := nomatch h
  finalizedWhole h := nomatch h
  wholeBlocks := ⟨0, rfl⟩
  capacity := Nat.zero_le _
  progress := Nat.zero_le _
  narrowWords h := absurd rfl h
  unusedWords h := absurd rfl h
  digestClear h := by rcases h with h | h | h <;> nomatch h
  digestHeld h := nomatch h

/-- A hash context in which only the listed facts matter meets the invariant. -/
theorem abcPadded_inv : abcPadded.Inv where
  canonical := by decide +kernel
  bounded := by decide +kernel
  busyClear _ := ⟨rfl, rfl⟩
  doneClear h := nomatch h
  noMessage h := by rcases h with h | h <;> nomatch h
  paddedStart _ := ⟨rfl, by decide +kernel⟩
  processingStarted h := nomatch h
  finalizedWhole h := nomatch h
  wholeBlocks := ⟨1, rfl⟩
  capacity := by decide +kernel
  progress := by decide +kernel
  narrowWords _ _ := by decide +kernel
  unusedWords _ h := nomatch h
  digestClear _ := rfl
  digestHeld h := nomatch h

theorem abcCompressed_inv : abcCompressed.Inv where
  canonical := by decide +kernel
  bounded := by decide +kernel
  busyClear _ := ⟨rfl, rfl⟩
  doneClear h := nomatch h
  noMessage h := by rcases h with h | h <;> nomatch h
  paddedStart h := nomatch h
  processingStarted _ := by decide +kernel
  finalizedWhole h := nomatch h
  wholeBlocks := ⟨1, rfl⟩
  capacity := by decide +kernel
  progress := by decide +kernel
  narrowWords _ _ := by decide +kernel
  unusedWords _ h := nomatch h
  digestClear _ := rfl
  digestHeld h := nomatch h

/-- The state after the host has written `MLEN = len`, H_INIT `v` has completed and a command is in execution. -/
theorem hashing_inv (len : Nat) : (hashing .v32 .initialized len []).Inv where
  canonical := rfl
  bounded := rfl
  busyClear _ := ⟨rfl, rfl⟩
  doneClear h := nomatch h
  noMessage _ := ⟨rfl, rfl⟩
  paddedStart h := nomatch h
  processingStarted h := nomatch h
  finalizedWhole h := nomatch h
  wholeBlocks := ⟨0, rfl⟩
  capacity := Nat.zero_le _
  progress := Nat.zero_le _
  narrowWords _ _ := by
    change ∀ k : Fin 8, ((initialWords .v32)[k]).toNat < 2 ^ 32
    decide +kernel
  unusedWords _ h := nomatch h
  digestClear _ := rfl
  digestHeld h := nomatch h

theorem test_witness_DecodeOfEncode : (Instr.wMul 14 14 15).wf = true ∧ (Instr.wAdd 14 0 14).wf = true := by decide

theorem test_witness_EncodeOfDecode : decode 0x32EEF000 = .ok (.wMul 14 14 15) := by decide +kernel

theorem test_witness_DecoderIsOpcodeMap :
    (∃ r ∈ opcodeMap, r.accepts 0x32EEF000 = true) ∧ ∀ r ∈ opcodeMap, r.accepts 0x02000000 = false := by
  decide +kernel

theorem test_witness_StepRunsDecodedCommand :
    ((running []).EngineTurn [] ∧ decode (running []).cmd = .ok .nop) ∧
    State.EngineTurn { running [] with schedule := [.engine, .hardReset] } [.hardReset] :=
  ⟨⟨⟨rfl, .inr ⟨rfl, rfl⟩⟩, by decide +kernel⟩, rfl, .inl rfl⟩

theorem test_witness_IllegalWordRaises :
    State.EngineTurn { running [] with cmd := 1 } [] ∧ decode 1 = .error .reservedBits :=
  ⟨⟨rfl, .inr ⟨rfl, rfl⟩⟩, by decide +kernel⟩

theorem test_witness_IdleEngineStays : State.reset.busy = false ∧ State.reset.schedule = [] := ⟨rfl, rfl⟩

theorem test_witness_StepKeepsInvariant : (running []).Inv ∧ ∃ t, step (running []) = .next t :=
  ⟨running_inv [], _, rfl⟩

theorem test_witness_StepNeverStops : (running []).Inv ∧ abcPadded.Inv := ⟨running_inv [], abcPadded_inv⟩

theorem test_witness_EngineReturnsToIdle : (running []).Inv ∧ (running []).busy = true := ⟨running_inv [], rfl⟩

theorem test_witness_CommandWholeOrErrorRecord :
    let s := running []
    s.busy = true ∧ s.err = .none ∧ s.done = false ∧ ∃ t, exec .nop s = .next t := ⟨rfl, rfl, rfl, _, rfl⟩

/-- An illegal word and a legal one in CMD, with the invariant. -/
theorem test_witness_ErrorsInOrder :
    decode 0x310F0000 = .error .pairIndex ∧ decode (running [5, 0]).cmd = .ok .nop ∧ (running [5, 0]).Inv :=
  ⟨by decide +kernel, by decide +kernel, running_inv _⟩

/-- Every row of R284 that can raise an error, at the boundary of its condition, in states that meet the invariant by
`running_inv`, `hashing_inv`, `abcPadded_inv` and `abcCompressed_inv` whatever word CMD holds. -/
theorem test_witness_ErrorsInOrder_rows :
    errorOf (.reduce 2 0 1 false) (running [5, 0]) = some .modulus ∧
    errorOf (.reduce 2 0 1 false) (running [5, 1]) = none ∧
    errorOf (.invert 2 0 1) (running [5, 1]) = some .modulus ∧
    errorOf (.invert 2 0 1) (running [5, 2]) = none ∧
    errorOf .hPad (running []) = some .hstate ∧
    errorOf .hPad (hashing .v32 .initialized 4088 []) = some .msglen ∧
    errorOf .hPad (hashing .v32 .initialized 4087 []) = none ∧
    errorOf .hCompress (running []) = some .hstate ∧ errorOf .hCompress abcCompressed = some .hstate ∧
    errorOf .hCompress abcPadded = none ∧
    errorOf .hFinal abcPadded = some .hstate ∧ errorOf .hFinal abcCompressed = none ∧
    errorOf (.hDigest .v32) (hashing .v32 .initialized 4088 []) = some .msglen ∧
    errorOf (.hDigest .v32) (hashing .v32 .initialized 4087 []) = none ∧
    errorOf (.wDbl 2 0) (running [0, Config.w.prime]) = some .range ∧
    errorOf (.wDbl 2 0) (running [0, Config.w.prime - 1]) = none ∧
    errorOf (.eAdd 4 0 2) (running [0, 0, Config.e.prime, 0]) = some .range ∧
    errorOf (.eAdd 4 0 2) (running [0, 0, Config.e.prime - 1, 0]) = none := by decide +kernel

theorem test_witness_PairIndexFifteenIllegal : (Instr.eMul 4 15 0).wf = false := by decide

theorem test_witness_CommandsLeaveHostFields : ∃ t, exec (.hInit .v64) (running []) = .next t := ⟨_, rfl⟩

theorem test_witness_NoHiddenDependence : isHash .nop = false ∧ isHash .hPad = true := ⟨rfl, rfl⟩

theorem test_witness_NopSetsDoneOnly : fieldOp 0x00800000 = 0x00 ∧ (0x00800000 : Word) ≠ 0 := by decide +kernel

theorem test_witness_LdcLoadsConstant :
    (fieldOp 0x01000100 = 0x01 ∧ bits 0x01000100 19 8 ≠ 0) ∧
    fieldOp 0x01000005 = 0x01 ∧ fieldFn 0x01000005 ∉ [0x00, 0x01, 0x02, 0x03, 0x04, 0x10, 0x11, 0x12, 0x13, 0x14] := by
  decide +kernel

theorem test_witness_RomHoldsCurveConstants :
    5 ∉ [0x00, 0x01, 0x02, 0x03, 0x04, 0x10, 0x11, 0x12, 0x13, 0x14] := by decide

theorem test_witness_ReduceIsTrueModulo :
    ((running [5, 0]).readB 1).toNat = 0 ∧ ((running [5, 1]).readB 1).toNat ≠ 0 ∧
    (fieldOp 0x10001000 = 0x10 ∧ bits 0x10001000 15 12 ≠ 0) ∧ fieldOp 0x10000002 = 0x10 ∧ bits 0x10000002 7 1 ≠ 0 := by
  decide +kernel

theorem test_witness_InvertIsFermatPower :
    ((running [5, 1]).readB 1).toNat < 2 ∧ 2 ≤ ((running [5, 2]).readB 1).toNat ∧
    (fieldOp 0x11001000 = 0x11 ∧ bits 0x11001000 15 12 ≠ 0) ∧ fieldOp 0x11000001 = 0x11 ∧ bits 0x11000001 7 0 ≠ 0 := by
  decide +kernel

theorem test_witness_ModexpIsPower :
    ((running [5, 0]).readB 1).toNat = 0 ∧ ((running [5, 1]).readB 1).toNat ≠ 0 ∧
    fieldOp 0x12000001 = 0x12 ∧ bits 0x12000001 7 0 ≠ 0 := by decide +kernel

theorem test_witness_ModAddSubMulResidues :
    ((running [5, 0]).readB 1).toNat = 0 ∧ ((running [5, 1]).readB 1).toNat ≠ 0 ∧
    (fieldOp 0x13000001 = 0x13 ∧ bits 0x13000001 7 0 ≠ 0) ∧ (fieldOp 0x14000080 = 0x14 ∧ bits 0x14000080 7 0 ≠ 0) ∧
    fieldOp 0x15000001 = 0x15 ∧ bits 0x15000001 7 0 ≠ 0 := by decide +kernel

theorem test_witness_InvertInsideAndOutsidePrecondition :
    (Nat.Prime 2 ∧ 3 % 2 ≠ 0) ∧ (Nat.Prime 3 ∧ 2 < 3 ∧ 6 % 3 = 0) ∧ ((running [3, 1]).readB 1).toNat < 2 :=
  ⟨⟨Nat.prime_two, by decide⟩, ⟨Nat.prime_three, by decide, by decide⟩, by decide +kernel⟩

theorem test_witness_ControlAndMauFrame :
    answers .nop (running []) (fun t => t.done) = true ∧ answers (.ldc 0 .ed) (running []) (fun t => t.done) = true ∧
    answers (.reduce 15 0 1 true) (running [5, 3]) (fun t => t.done) = true ∧
    answers (.modmul 15 0 1 2) (running [5, 3, 0]) (fun t => !t.done) = true := by decide +kernel

theorem test_witness_ScheduleRecurrence :
    (List.replicate 16 (0 : Word)).length = 16 ∧ (List.replicate 16 (0 : HashWord)).length = 16 := by decide

theorem test_witness_TwentyByteRounds : (List.replicate 80 (0 : Word)).length = 80 := List.length_replicate

theorem test_witness_EightWordRounds :
    (List.replicate 64 (0 : Word)).length = 64 ∧ (List.replicate 80 (0 : HashWord)).length = 80 :=
  ⟨List.length_replicate, List.length_replicate⟩

theorem test_witness_HashStateMachine :
    (abcPadded.Inv ∧ hashTransition .hCompress abcPadded.hs false = some .processing) ∧
    (abcCompressed.Inv ∧ hashTransition .hCompress abcCompressed.hs true = none ∧
      hashTransition .hFinal abcCompressed.hs true = some .finalized) ∧
    ((running []).Inv ∧ hashTransition .hPad (running []).hs true = none) ∧
    (isHash .nop = false ∧ ∃ t, exec .nop (running []) = .next t) :=
  ⟨⟨abcPadded_inv, rfl⟩, ⟨abcCompressed_inv, rfl, rfl⟩, ⟨running_inv [], rfl⟩, rfl, _, rfl⟩

theorem test_witness_HInitStartsContext :
    (fieldOp 0x20000004 = 0x20 ∧ bits 0x20000004 23 2 ≠ 0) ∧ fieldOp 0x20000003 = 0x20 ∧ bits 0x20000003 1 0 = 3 := by
  decide +kernel

/-- The three outcomes, the last two at the longest message that fits and one byte more. -/
theorem test_witness_HPadPadsInPlace :
    ((running []).mb.wf = true ∧ (running []).hs ≠ .initialized) ∧
    (let s := hashing .v32 .initialized 4088 [];
      s.mb.wf = true ∧ s.hs = .initialized ∧ s.config.msgCap < paddedLength s.hv s.mlen.toNat) ∧
    (let s := hashing .v32 .initialized 4087 [];
      s.mb.wf = true ∧ s.hs = .initialized ∧ s.mlen.toNat ≤ s.config.msgCap ∧
        paddedLength s.hv s.mlen.toNat ≤ s.config.msgCap) := by decide +kernel

theorem test_witness_HCompressAddsRounds :
    ((running []).Inv ∧ (running []).hs ≠ .padded ∧ (running []).hs ≠ .processing) ∧
    (abcCompressed.Inv ∧ abcCompressed.plen.toNat ≤ abcCompressed.blk.toNat * blockBytes abcCompressed.hv) ∧
    (abcPadded.Inv ∧ abcPadded.hs = .padded ∧ abcPadded.blk.toNat * blockBytes abcPadded.hv < abcPadded.plen.toNat) :=
  ⟨⟨running_inv [], by decide +kernel⟩, ⟨abcCompressed_inv, by decide +kernel⟩, abcPadded_inv, by decide +kernel⟩

theorem test_witness_HFinalSerializesDigest :
    abcPadded.hs ≠ .processing ∧
    (abcCompressed.hs = .processing ∧
      abcCompressed.blk.toNat * blockBytes abcCompressed.hv = abcCompressed.plen.toNat) := by decide +kernel

theorem test_witness_HDigestIsStepByStep :
    (let s := hashing .v64 .none 4080 []; s.config.msgCap < paddedLength .v64 s.mlen.toNat) ∧
    (let s := hashing .v64 .none 4079 [];
      s.mlen.toNat ≤ s.config.msgCap ∧ paddedLength .v64 s.mlen.toNat ≤ s.config.msgCap) := by decide +kernel

/-- Two states that differ in every other part of the hash context and beyond MLEN, and agree on the message. -/
theorem test_witness_DigestDependsOnMessageOnly :
    let s := hashing .v20 .none 3 abc
    let u := hashing .v64 .finalized 3 (abc ++ [0xFF])
    s.mb.wf = true ∧ u.mb.wf = true ∧ s.config = u.config ∧ s.mlen = u.mlen ∧
    (∀ a, a < s.mlen.toNat → s.mb.read a = u.mb.read a) ∧ s.mlen.toNat ≤ s.config.msgCap ∧
    paddedLength .v20 s.mlen.toNat ≤ s.config.msgCap ∧
    answers (.hDigest .v20) s (fun _ => true) = true ∧ answers (.hDigest .v20) u (fun _ => true) = true := by
  decide +kernel

theorem test_witness_HashFrame :
    (abcPadded.mb.wf = true ∧ isHash .hCompress = true ∧ answers .hCompress abcPadded (fun _ => true) = true) ∧
    (let s := hashing .v32 .initialized 3 abc;
      s.mb.wf = true ∧ isHash .hPad = true ∧ answers .hPad s (fun _ => true) = true) := by decide +kernel

/-- A coordinate at the prime, and every coordinate just below it. -/
theorem test_witness_WAddWritesSum :
    (Config.w.prime ≤ ((running [0, Config.w.prime]).readPair 0).y) ∧
    (let q := (running [Config.w.prime - 1, Config.w.prime - 1]).readPair 0;
      q.x < Config.w.prime ∧ q.y < Config.w.prime) ∧
    (fieldOp 0x30000001 = 0x30 ∧ bits 0x30000001 11 0 ≠ 0) ∧ (fieldOp 0x3000F000 = 0x30 ∧ bits 0x3000F000 15 12 = 15) := by
  decide +kernel

theorem test_witness_WDblWritesDouble :
    (Config.w.prime ≤ ((running [Config.w.prime]).readPair 0).x) ∧
    (let q := (running [Config.w.prime - 1, Config.w.prime - 1]).readPair 0;
      q.x < Config.w.prime ∧ q.y < Config.w.prime) ∧
    (fieldOp 0x31001000 = 0x31 ∧ bits 0x31001000 15 0 ≠ 0) ∧ (fieldOp 0x31F00000 = 0x31 ∧ bits 0x31F00000 23 20 = 15) := by
  decide +kernel

theorem test_witness_WMulIsDoubleAndAdd :
    (Config.w.prime ≤ ((running [Config.w.prime]).readPair 0).x) ∧
    (let q := (running [Config.w.prime - 1, Config.w.prime - 1]).readPair 0;
      q.x < Config.w.prime ∧ q.y < Config.w.prime) ∧
    (fieldOp 0x32000100 = 0x32 ∧ bits 0x32000100 11 0 ≠ 0) ∧ (fieldOp 0x320F0000 = 0x32 ∧ bits 0x320F0000 19 16 = 15) := by
  decide +kernel

theorem test_witness_EAddWritesSum :
    (Config.e.prime ≤ ((running [0, Config.e.prime]).readPair 0).y) ∧
    (let q := (running [Config.e.prime - 1, Config.e.prime - 1]).readPair 0;
      q.x < Config.e.prime ∧ q.y < Config.e.prime) ∧
    (fieldOp 0x40000001 = 0x40 ∧ bits 0x40000001 11 0 ≠ 0) ∧ (fieldOp 0x4000F000 = 0x40 ∧ bits 0x4000F000 15 12 = 15) ∧
    fieldOp 0x41024000 = 0x41 := by decide +kernel

theorem test_witness_EMulIsDoubleAndAdd :
    (Config.e.prime ≤ ((running [Config.e.prime]).readPair 0).x) ∧
    (let q := (running [Config.e.prime - 1, Config.e.prime - 1]).readPair 0;
      q.x < Config.e.prime ∧ q.y < Config.e.prime) ∧
    (fieldOp 0x42000100 = 0x42 ∧ bits 0x42000100 11 0 ≠ 0) ∧ (fieldOp 0x420F0000 = 0x42 ∧ bits 0x420F0000 19 16 = 15) := by
  decide +kernel

theorem test_witness_ScalarCornerCases : Config.w.gx < Config.w.prime ∧ Config.e.gy < Config.e.prime := by
  decide +kernel

theorem test_witness_WeierstrassDegeneratePairs :
    let p := Config.w.prime
    (p - 1 < p ∧ p - 1 ≠ 0) ∧
    ((1 : Nat) < p ∧ 1 ≠ 2 ∧ 1 ≠ residue (-(2 : Int)) p ∧ (⟨1, 1⟩ : Point) ≠ ⟨0, 0⟩ ∧ (⟨1, 2⟩ : Point) ≠ ⟨0, 0⟩) := by
  decide +kernel

/-- The last clause's premises with a zero denominator: `d * x1 * x2 * y1 * y2 = -1`, and `= 1`. -/
theorem test_witness_EdwardsDegeneratePairs :
    let p := Config.e.prime
    let d := Config.e.coeff
    let x := Sys2Proof.Machine.invert d p
    let y := residue (-(x : Int)) p
    (1 < p ∧ p - 1 ≠ 0) ∧ ¬(1 = residue (-(x : Int)) p ∧ 1 = 1) ∧ ¬(1 = residue (-(y : Int)) p ∧ 1 = 1) ∧
    residue (1 - (residue (d * x * 1 * 1 * 1) p : Int)) p = 0 ∧
    residue (1 + (residue (d * y * 1 * 1 * 1) p : Int)) p = 0 := by decide +kernel

theorem test_witness_CurveFrame :
    answers (.wDbl 2 0) (running [1, 1]) (fun t => t.done) = true ∧
    answers (.eAdd 14 0 0) (running [Config.e.prime]) (fun t => !t.done) = true := by decide +kernel

/-- The first and the last offset of each reserved range, and of DG, H, B and MB with `MSG_CAP = 4096`. -/
theorem test_witness_AddressMap :
    [0x0020, 0x003C, 0x00C0, 0x03FC, 0x0800, 0x0FFC, 0x2000].all
      (fun offset => target Config.standard (offset / 4) == .reserved) = true ∧
    target Config.standard (0x0040 / 4) = .dg 0 ∧ target Config.standard (0x007C / 4) = .dg 15 ∧
    target Config.standard (0x0080 / 4) = .h 0 ∧ target Config.standard (0x00BC / 4) = .h 15 ∧
    target Config.standard (0x0400 / 4) = .b 0 0 ∧ target Config.standard (0x07FC / 4) = .b 15 15 ∧
    target Config.standard (0x1000 / 4) = .mb 0 ∧ target Config.standard (0x1FFC / 4) = .mb 1023 := by decide +kernel

theorem test_witness_CommandWriteAcceptedOrDropped :
    (let s := { State.reset with schedule := hostWriteCmd 7 };
      HostTurn s (.write 1 7 0xF) [] ∧ s.busy = false ∧ s.err = .none) ∧
    (HostTurn { running [] with schedule := hostWriteCmd 7 } (.write 1 7 0xF) []) ∧
    (let s := { State.reset with err := .range, schedule := hostWriteCmd 7 };
      HostTurn s (.write 1 7 0xF) [] ∧ s.err ≠ .none) :=
  ⟨⟨rfl, rfl, rfl⟩, rfl, rfl, by decide⟩

theorem test_witness_ControlWriteActs :
    HostTurn { running [] with schedule := hostWriteCtrl 1 } (.write 3 1 0xF) [] ∧ (1 : Word).getLsbD 0 = true ∧
    HostTurn { running [] with schedule := hostWriteCtrl 30 } (.write 3 30 0xF) [] ∧ (30 : Word).getLsbD 0 = false ∧
    HostTurn { running [] with schedule := [.bus (.write 3 30 0xE)] } (.write 3 30 0xE) [] ∧
    (0xE : BitVec 4) ≠ 0 ∧ (0xE : BitVec 4) ≠ 0xF :=
  ⟨rfl, by decide, rfl, by decide, rfl, by decide, by decide⟩

theorem test_witness_ResetClearsControlState : (0xFFFFFFFF : Word).getLsbD 0 = true := by decide

theorem test_witness_LostWritesSetHaz :
    (let s := { running [] with schedule := [.bus (.write 0x400 5 1)] };
      HostTurn s (.write 0x400 5 1) [] ∧ s.busy = true ∧ target s.config 0x400 = .mb 0) ∧
    (let s := { State.reset with schedule := [.bus (.write 3 5 7)] };
      HostTurn s (.write 3 5 7) [] ∧ target s.config 3 = .ctrl ∧ (7 : BitVec 4) ≠ 0xF) ∧
    (let s := { State.reset with err := .illegal, schedule := [.bus (.write 1 5 0xF)] };
      HostTurn s (.write 1 5 0xF) [] ∧ target s.config 1 = .cmd ∧ s.err ≠ .none) ∧
    (let s := { running [] with schedule := [.bus (.write 8 5 0xF)] };
      HostTurn s (.write 8 5 0xF) [] ∧ target s.config 8 = .reserved) :=
  ⟨⟨rfl, rfl, by decide +kernel⟩, ⟨rfl, by decide +kernel, by decide⟩, ⟨rfl, by decide +kernel, by decide⟩,
    rfl, by decide +kernel⟩

theorem test_witness_ReadsChangeNothing :
    (let s := { running [] with schedule := [.bus (.read 2)] };
      HostTurn s (.read 2) [] ∧ target s.config 2 = .status ∧ s.busy = true) ∧
    (let s := { running [] with schedule := [.bus (.read 4)] };
      HostTurn s (.read 4) [] ∧ target s.config 4 = .mlen ∧ s.busy = true) ∧
    (let s := { State.reset with schedule := [.bus (.read 4)] };
      HostTurn s (.read 4) [] ∧ s.busy = false) ∧
    target Config.standard 8 = .reserved :=
  ⟨⟨rfl, by decide +kernel, rfl⟩, ⟨rfl, by decide +kernel, rfl⟩, ⟨rfl, rfl⟩, by decide +kernel⟩

theorem test_witness_MlenAndBigRegisterWordAccess :
    (let s := { State.reset with schedule := hostWriteMlen 9 };
      s.busy = false ∧ HostTurn s (.write 4 9 0xF) []) ∧
    (let s := { State.reset with schedule := [writeAt 0x07FC 9] };
      s.busy = false ∧ HostTurn s (.write ((0x0400 + 64 * (15 : Reg).val + 4 * 15) / 4) 9 0xF) []) :=
  ⟨⟨rfl, rfl⟩, rfl, rfl⟩

theorem test_witness_HostWriteBStoresValue :
    let s := { State.reset with schedule := hostWriteB 15 7 }
    s.busy = false ∧ s.schedule = hostWriteB 15 7 ++ [] := ⟨rfl, (List.append_nil _).symm⟩

theorem test_witness_MessageWordAccess :
    let s := { State.reset with schedule := [.bus (.write ((0x1000 + 4 * 1023) / 4) 9 5)] }
    s.mb.wf = true ∧ s.busy = false ∧ 4 * 1023 < s.config.msgCap ∧
    HostTurn s (.write ((0x1000 + 4 * 1023) / 4) 9 5) [] := ⟨rfl, rfl, by decide, rfl⟩

theorem test_witness_DigestAndHashWordReads : abcPadded.Inv ∧ abcPadded.hs ≠ .none ∧ abcPadded.hv ≠ .v64 :=
  ⟨abcPadded_inv, by decide, by decide⟩

end Sys2Proof.Tests
end

section
/-! SUPPORT. What a command can do to the state, said once: the commands by unit, the inversion lemma of `exec`,
and the frame of the block loop of H_DIGEST. -/

namespace Sys2Proof.Machine

variable {s t : State} {i : Instr}

/-- The destination register of a MAU command (41_modarith R134 to R139). -/
def residueDest : Instr → Option Reg
  | .reduce rd _ _ _ => some rd
  | .invert rd _ _ => some rd
  | .modexp rd _ _ _ => some rd
  | .modadd rd _ _ _ => some rd
  | .modsub rd _ _ _ => some rd
  | .modmul rd _ _ _ => some rd
  | _ => none

/-- The destination pair of an ECU command (43_weierstrass R204 to R206, 44_edwards R234, R235). -/
def pointDest : Instr → Option Reg
  | .wAdd rd _ _ => some rd
  | .wDbl rd _ => some rd
  | .wMul rd _ _ => some rd
  | .eAdd rd _ _ => some rd
  | .eMul rd _ _ => some rd
  | _ => none

/-- A MAU command is E_MODULUS or writes one residue to its destination. -/
theorem exec_of_residueDest {rd : Reg} (hd : residueDest i = some rd) (s : State) :
    exec i s = fail .modulus s ∨ ∃ r, exec i s = finishResidue rd r s := by
  cases i with
  | reduce _ ra rm signed =>
    cases hd
    exact (em (s.unsignedB rm = 0)).imp execReduce_zero fun hm => ⟨_, execReduce_pos hm⟩
  | invert _ ra rm =>
    cases hd
    exact (em (s.unsignedB rm < 2)).imp execInvert_small fun hm => ⟨_, execInvert_big (Nat.le_of_not_lt hm)⟩
  | modexp _ ra rb rm =>
    cases hd
    exact (em (s.unsignedB rm = 0)).imp execModexp_zero fun hm => ⟨_, execModexp_pos hm⟩
  | modadd _ ra rb rm =>
    cases hd
    exact (em (s.unsignedB rm = 0)).imp execModadd_zero fun hm => ⟨_, execModadd_pos hm⟩
  | modsub _ ra rb rm =>
    cases hd
    exact (em (s.unsignedB rm = 0)).imp execModsub_zero fun hm => ⟨_, execModsub_pos hm⟩
  | modmul _ ra rb rm =>
    cases hd
    exact (em (s.unsignedB rm = 0)).imp execModmul_zero fun hm => ⟨_, execModmul_pos hm⟩
  | nop | ldc | hInit | hPad | hCompress | hFinal | hDigest | wAdd | wDbl | wMul | eAdd | eMul => cases hd

/-- An ECU command ends in error or writes one point to its destination pair. -/
theorem exec_of_pointDest {rd : Reg} (hd : pointDest i = some rd) (s : State) :
    (∃ e, exec i s = fail e s) ∨ ∃ p, exec i s = finishPoint rd p s := by
  cases i with
  | wAdd _ ra rb =>
    cases hd
    obtain ⟨-, h⟩ | ⟨-, -, h⟩ | ⟨-, -, h⟩ := execWAdd_cases rd ra rb s
    exacts [.inl ⟨_, h⟩, .inl ⟨_, h⟩, .inr ⟨_, h⟩]
  | wDbl _ ra =>
    cases hd
    obtain ⟨-, h⟩ | ⟨-, -, h⟩ | ⟨-, -, h⟩ := execWDbl_cases rd ra s
    exacts [.inl ⟨_, h⟩, .inl ⟨_, h⟩, .inr ⟨_, h⟩]
  | wMul _ ra rb =>
    cases hd
    obtain ⟨-, h⟩ | ⟨-, -, h⟩ | ⟨-, -, h⟩ := execWMul_cases rd ra rb s
    exacts [.inl ⟨_, h⟩, .inl ⟨_, h⟩, .inr ⟨_, h⟩]
  | eAdd _ ra rb =>
    cases hd
    obtain ⟨-, h⟩ | ⟨-, -, h⟩ | ⟨-, -, h⟩ := execEAdd_cases rd ra rb s
    exacts [.inl ⟨_, h⟩, .inl ⟨_, h⟩, .inr ⟨_, h⟩]
  | eMul _ ra rb =>
    cases hd
    obtain ⟨-, h⟩ | ⟨-, -, h⟩ | ⟨-, -, h⟩ := execEMul_cases rd ra rb s
    exacts [.inl ⟨_, h⟩, .inl ⟨_, h⟩, .inr ⟨_, h⟩]
  | nop | ldc | reduce | invert | modexp | modadd | modsub | modmul | hInit | hPad | hCompress | hFinal | hDigest =>
    cases hd

/-- `Writes s i u`: a command `i` that completes from `s` has written `u` when only DONE and BUSY remain (40_control
R119), under the checks that let it complete. -/
inductive Writes (s : State) : Instr → State → Prop
  | nop : Writes s .nop s
  | ldc (rd : Reg) (c : ConstName) : Writes s (.ldc rd c) (s.writeB rd (BitVec.ofNat 512 (romValue c)))
  | residue {i : Instr} {rd : Reg} (r : Nat) (hd : residueDest i = some rd) :
    Writes s i ((s.writeB rd (BitVec.ofNat 512 r)).withZ r)
  | point {i : Instr} {rd : Reg} (p : Point) (hd : pointDest i = some rd) :
    Writes s i ((s.writePair rd p).withInf p.x p.y)
  | hInit (v : Variant) : Writes s (.hInit v) (s.initHash v)
  | hPad (hs : s.hs = .initialized) (fits : messageTooLong s.config.msgCap s.hv s.mlen.toNat = false) :
    Writes s .hPad s.padMessage
  | hCompress (hs : s.hs = .padded ∨ s.hs = .processing) (left : s.blockOffset < s.plen.toNat) :
    Writes s .hCompress s.compressBlock
  | hFinal (hs : s.hs = .processing) (whole : s.blockOffset = s.plen.toNat) : Writes s .hFinal s.finalizeHash
  | hDigest (v : Variant) (fits : messageTooLong s.config.msgCap v s.mlen.toNat = false) :
    Writes s (.hDigest v) (s.digestMessage v)

theorem next_of_fail {e : ErrorCode} (h : exec i s = .next t) (hf : exec i s = fail e s) :
    (∃ e, t = s.raise e) ∨ ∃ u, Writes s i u ∧ t = u.complete :=
  .inl ⟨e, fail_next.1 (hf ▸ h)⟩

theorem next_of_finish {u : State} (hu : Writes s i u) (h : exec i s = .next t) (hf : exec i s = finish u) :
    (∃ e, t = s.raise e) ∨ ∃ u, Writes s i u ∧ t = u.complete :=
  .inr ⟨u, hu, finish_next.1 (hf ▸ h)⟩

theorem next_of_residueDest {rd : Reg} (hd : residueDest i = some rd) (h : exec i s = .next t) :
    (∃ e, t = s.raise e) ∨ ∃ u, Writes s i u ∧ t = u.complete := by
  obtain hf | ⟨r, hf⟩ := exec_of_residueDest hd s
  · exact next_of_fail h hf
  · exact next_of_finish (.residue r hd) h hf

theorem next_of_pointDest {rd : Reg} (hd : pointDest i = some rd) (h : exec i s = .next t) :
    (∃ e, t = s.raise e) ∨ ∃ u, Writes s i u ∧ t = u.complete := by
  obtain ⟨e, hf⟩ | ⟨p, hf⟩ := exec_of_pointDest hd s
  · exact next_of_fail h hf
  · exact next_of_finish (.point p hd) h hf

/-- The inversion lemma of `exec`: a command answers its error record or completes what it has written (60_exceptions
R281, 40_control R119). -/
theorem exec_next (h : exec i s = .next t) : (∃ e, t = s.raise e) ∨ ∃ u, Writes s i u ∧ t = u.complete := by
  cases i with
  | nop => exact next_of_finish .nop h rfl
  | ldc rd c => exact next_of_finish (.ldc rd c) h rfl
  | reduce | invert | modexp | modadd | modsub | modmul => exact next_of_residueDest rfl h
  | wAdd | wDbl | wMul | eAdd | eMul => exact next_of_pointDest rfl h
  | hInit v => exact next_of_finish (.hInit v) h rfl
  | hPad =>
    obtain ⟨-, hf⟩ | ⟨-, -, hf⟩ | ⟨hs, fits, hf⟩ := execHPad_cases s
    · exact next_of_fail h hf
    · exact next_of_fail h hf
    · exact next_of_finish (.hPad hs fits) h hf
  | hCompress =>
    obtain ⟨-, hf⟩ | ⟨-, -, hf⟩ | ⟨-, -, -, hf⟩ | ⟨hs, left, -, hf⟩ := execHCompress_cases s
    · exact next_of_fail h hf
    · exact next_of_fail h hf
    · cases hf.symm.trans h
    · exact next_of_finish (.hCompress hs left) h hf
  | hFinal =>
    obtain ⟨-, hf⟩ | ⟨hs, whole, hf⟩ := execHFinal_cases s
    · exact next_of_fail h hf
    · exact next_of_finish (.hFinal hs whole) h hf
  | hDigest v =>
    obtain ⟨-, hf⟩ | ⟨fits, hf⟩ := execHDigest_cases v s
    · exact next_of_fail h hf
    · exact next_of_finish (.hDigest v fits) h hf

/-- Compressing blocks changes H, BLK and HS only (42_hash R173, R177). -/
theorem compressBlocks_frame (n : Nat) (s : State) :
    s.compressBlocks n =
      { s with h := (s.compressBlocks n).h, blk := (s.compressBlocks n).blk, hs := (s.compressBlocks n).hs } := by
  induction n generalizing s with
  | zero => rfl
  | succ n ih => exact ih s.compressBlock

/-- H_DIGEST changes MB as H_PAD of its variant does, and besides it the hash context and DG only (42_hash R177). -/
theorem digestMessage_frame (v : Variant) (s : State) :
    s.digestMessage v =
      { s with
        mb := s.mb.writeBytes s.mlen.toNat (padding v s.mlen.toNat)
        plen := (s.digestMessage v).plen
        blk := (s.digestMessage v).blk
        hs := .finalized
        hv := v
        h := (s.digestMessage v).h
        dg := (s.digestMessage v).dg } := by
  unfold State.digestMessage
  dsimp only
  rw [compressBlocks_frame]
  rfl

end Sys2Proof.Machine
end

section
/-! SUPPORT. The padding of a message: its length and where it is written (42_hash R168, R171). -/

namespace Sys2Proof.Machine

@[simp] theorem length_beBytes (n v : Nat) : (beBytes n v).length = n := by simp [beBytes]

theorem blockBytes_pos (v : Variant) : 0 < blockBytes v := by cases v <;> decide

theorem blockBytes_dvd_paddedLength (v : Variant) (len : Nat) : blockBytes v ∣ paddedLength v len :=
  Nat.dvd_mul_right _ _

/-- The padded length has room for the message, the byte 0x80 and the length field (42_hash R168). -/
theorem paddedLength_room (v : Variant) (len : Nat) : len + 1 + lengthBytes v ≤ paddedLength v len := by
  cases v <;> simp only [paddedLength, blockBytes, lengthBytes] <;> omega

/-- The message and its padding are `paddedLength` bytes together (42_hash R168). -/
theorem add_length_padding (v : Variant) (len : Nat) : len + (padding v len).length = paddedLength v len := by
  have room := paddedLength_room v len
  simp only [padding, zeroCount, List.length_append, List.length_singleton, List.length_replicate, length_beBytes]
  omega

/-- Padding in place leaves the message and every byte from the padded length on (42_hash R171). -/
theorem read_writeBytes_padding {m : Memory} (hm : m.wf = true) (v : Variant) {len a : Nat}
    (ha : a < len ∨ paddedLength v len ≤ a) : (m.writeBytes len (padding v len)).read a = m.read a := by
  rw [Memory.read_writeBytes _ _ hm, add_length_padding]
  exact if_neg (by omega)

end Sys2Proof.Machine
end

section
/-! The frames of the commands: what each group of commands leaves unchanged. -/

namespace Sys2Proof.Machine

open Sys2Proof.Claims

/-- A pair is written to its two registers and no other (10_state R23). -/
theorem State.readB_writePair_other (s : State) {rd k : Reg} (p : Point) (h1 : k ≠ rd) (h2 : k ≠ rd + 1) :
    (s.writePair rd p).readB k = s.readB k := by
  rw [State.writePair, State.readB_writeB_other _ _ h2, State.readB_writeB_other _ _ h1]

/-- Settles O15: the error record and every completed write keep the host's fields and the model's own; for H_DIGEST
that is its frame, for every other command the updates themselves. -/
theorem commandsLeaveHostFields : Obligations.CommandsLeaveHostFields := by
  intro i s t h
  obtain ⟨e, rfl⟩ | ⟨u, hu, rfl⟩ := exec_next h
  · exact ⟨rfl, rfl, rfl, rfl, rfl, rfl, rfl, rfl, rfl⟩
  · cases hu with
    | hDigest v _ =>
      rw [digestMessage_frame]
      exact ⟨rfl, rfl, rfl, rfl, rfl, rfl, rfl, rfl, rfl⟩
    | nop | ldc | residue | point | hInit | hPad | hCompress | hFinal =>
      exact ⟨rfl, rfl, rfl, rfl, rfl, rfl, rfl, rfl, rfl⟩

/-- The frame of a MAU command: the destination register, Z and the record bits. -/
theorem exec_frame_of_residueDest {i : Instr} {s t : State} {rd : Reg} (hd : residueDest i = some rd)
    (h : exec i s = .next t) :
    (∀ k, k ≠ rd → t.readB k = s.readB k) ∧ (∀ a, t.mb.read a = s.mb.read a) ∧
    t = { s with b := t.b, z := t.z, busy := t.busy, done := t.done, err := t.err } := by
  obtain hf | ⟨r, hf⟩ := exec_of_residueDest hd s
  · obtain rfl := fail_next.1 (hf ▸ h)
    exact ⟨fun _ _ => rfl, fun _ => rfl, rfl⟩
  · obtain rfl := finishResidue_next.1 (hf ▸ h)
    exact ⟨fun k hk => s.readB_writeB_other _ hk, fun _ => rfl, rfl⟩

/-- Settles O25: NOP writes no register, LDC one and no flag, and the MAU commands share one frame. -/
theorem controlAndMauFrame : Obligations.ControlAndMauFrame := by
  intro i s t rd hi h
  have mau (hd : residueDest i = some rd) (hn : i ≠ .nop) (hl : ¬ ∃ c, i = .ldc rd c) :
      (∀ k, k ≠ rd → t.readB k = s.readB k) ∧ (∀ a, t.mb.read a = s.mb.read a) ∧
      ((i = .nop ∨ ∃ c, i = .ldc rd c) → t.z = s.z) ∧ (i = .nop → t.b = s.b) ∧
      t = { s with b := t.b, z := t.z, busy := t.busy, done := t.done, err := t.err } := by
    obtain ⟨hb, hm, ht⟩ := exec_frame_of_residueDest hd h
    exact ⟨hb, hm, fun hz => absurd hz (not_or.2 ⟨hn, hl⟩), fun he => absurd he hn, ht⟩
  obtain rfl | ⟨c, rfl⟩ | ⟨_, _, _, rfl⟩ | ⟨_, _, rfl⟩ | ⟨_, _, _, rfl⟩ | ⟨_, _, _, rfl⟩ | ⟨_, _, _, rfl⟩ |
    ⟨_, _, _, rfl⟩ := hi
  · obtain rfl := execNop_next.1 h
    exact ⟨fun _ _ => rfl, fun _ => rfl, fun _ => rfl, fun _ => rfl, rfl⟩
  · obtain rfl := execLdc_next.1 h
    exact ⟨fun k hk => s.readB_writeB_other _ hk, fun _ => rfl, fun _ => rfl, nofun, rfl⟩
  all_goals exact mau rfl nofun nofun

/-- The frame of an ECU command: the destination pair, INF and the record bits. -/
theorem exec_frame_of_pointDest {i : Instr} {s t : State} {rd : Reg} (hd : pointDest i = some rd)
    (h : exec i s = .next t) :
    (∀ k, k ≠ rd → k ≠ rd + 1 → t.readB k = s.readB k) ∧ (∀ a, t.mb.read a = s.mb.read a) ∧
    t = { s with b := t.b, inf := t.inf, busy := t.busy, done := t.done, err := t.err } := by
  obtain ⟨e, hf⟩ | ⟨p, hf⟩ := exec_of_pointDest hd s
  · obtain rfl := fail_next.1 (hf ▸ h)
    exact ⟨fun _ _ _ => rfl, fun _ => rfl, rfl⟩
  · obtain rfl := finishPoint_next.1 (hf ▸ h)
    exact ⟨fun k h1 h2 => s.readB_writePair_other p h1 h2, fun _ => rfl, rfl⟩

/-- Settles O49: the five ECU commands share one frame. -/
theorem curveFrame : Obligations.CurveFrame := by
  intro i s t rd hi h
  have hd : pointDest i = some rd := by
    obtain ⟨_, _, rfl⟩ | ⟨_, rfl⟩ | ⟨_, _, rfl⟩ | ⟨_, _, rfl⟩ | ⟨_, _, rfl⟩ := hi <;> rfl
  exact exec_frame_of_pointDest hd h

/-- A hash command has no destination register and no destination pair. -/
theorem dest_of_isHash {i : Instr} : isHash i = true → residueDest i = none ∧ pointDest i = none := by
  cases i with
  | hInit | hPad | hCompress | hFinal | hDigest => exact fun _ => ⟨rfl, rfl⟩
  | _ => exact nofun

/-- Settles O38: an error record changes none of these fields; of the completed writes only the padding of H_PAD and
H_DIGEST touches MB, between MLEN and the padded length. -/
theorem hashFrame : Obligations.HashFrame := by
  intro i s t hm hh h
  obtain ⟨e, rfl⟩ | ⟨u, hu, rfl⟩ := exec_next h
  · simp
  cases hu with
  | nop | ldc => cases hh
  | residue _ hd => cases (dest_of_isHash hh).1.symm.trans hd
  | point _ hd => cases (dest_of_isHash hh).2.symm.trans hd
  | hInit v => simp
  | hPad => simpa using fun a ha => read_writeBytes_padding hm s.hv ha
  | hCompress => simp
  | hFinal => simp
  | hDigest v =>
    rw [digestMessage_frame]
    simpa using fun a ha => read_writeBytes_padding hm v ha

end Sys2Proof.Machine
end

section
/-! SUPPORT. Small facts the invariant needs: the capacity bound, the words of H after a write, the lanes of a
word write to MB, and the two cases of a CTRL write. -/

namespace Sys2Proof.Machine

theorem msgCap_lt (c : Config) : c.msgCap < 2 ^ 31 := by
  have := c.capSteps.isLt
  simp only [Config.msgCap]
  omega

/-- `MSG_CAP` is a multiple of 4, so a word of MB that begins in MB lies in it (00_scope R10). -/
theorem word_below_msgCap (c : Config) {q i : Nat} (hq : 4 * q < c.msgCap) (hi : i < 4) :
    4 * q + i < c.msgCap := by
  simp only [Config.msgCap] at *
  omega

theorem messageTooLong_eq_false {cap len : Nat} {v : Variant} :
    messageTooLong cap v len = false ↔ len ≤ cap ∧ paddedLength v len ≤ cap := by
  simp [messageTooLong]

/-- A written word of H, or the old one beyond the words written (10_state R37). -/
theorem getElem_writeHashWords {w : Nat} (h : Vector HashWord 8) (words : List (BitVec w)) (k : Fin 8) :
    (writeHashWords h words)[k] = (words[k.val]?.map (BitVec.setWidth 64)).getD h[k] := by
  simp only [writeHashWords, Fin.getElem_fin, Vector.getElem_ofFn]
  cases words[k.val]? <;> rfl

/-- 32-bit words written over a narrow H leave it narrow (10_state R37). -/
theorem writeHashWords_narrow {h : Vector HashWord 8} (hn : ∀ k : Fin 8, (h[k]).toNat < 2 ^ 32) (words : List Word)
    (k : Fin 8) : ((writeHashWords h words)[k]).toNat < 2 ^ 32 := by
  rw [getElem_writeHashWords]
  cases words[k.val]? with
  | none => exact hn k
  | some x =>
    have := x.isLt
    simp only [Option.map_some, Option.getD_some, BitVec.toNat_setWidth]
    omega

/-- The words of H beyond the list keep their value (42_hash R173). -/
theorem writeHashWords_beyond {w : Nat} (h : Vector HashWord 8) {words : List (BitVec w)} {k : Fin 8}
    (hk : words.length ≤ k.val) : (writeHashWords h words)[k] = h[k] := by
  rw [getElem_writeHashWords, List.getElem?_eq_none hk]
  rfl

theorem zero_narrow (k : Fin 8) : ((Vector.replicate 8 0 : Vector HashWord 8)[k]).toNat < 2 ^ 32 := by simp

theorem initialWords_narrow {v : Variant} (hv : v ≠ .v64) (k : Fin 8) : ((initialWords v)[k]).toNat < 2 ^ 32 := by
  cases v with
  | v20 | v32 => exact writeHashWords_narrow zero_narrow _ k
  | v64 => exact absurd rfl hv

theorem initialWords_unused {k : Fin 8} (hk : 5 ≤ k.val) : (initialWords .v20)[k] = 0 :=
  (writeHashWords_beyond _ (show Config.v20.iv.length ≤ k.val from hk)).trans (by simp)

theorem compressWords_narrow {v : Variant} (hv : v ≠ .v64) {h : Vector HashWord 8}
    (hn : ∀ k : Fin 8, (h[k]).toNat < 2 ^ 32) (mb : Memory) (base : Nat) (k : Fin 8) :
    ((compressWords v mb base h)[k]).toNat < 2 ^ 32 := by
  cases v with
  | v20 | v32 => exact writeHashWords_narrow hn _ k
  | v64 => exact absurd rfl hv

theorem length_compress1 (t : Sha1Tables) (h words : List Word) : (compress1 t h words).length = 5 := rfl

theorem compressWords_unused (mb : Memory) (base : Nat) (h : Vector HashWord 8) {k : Fin 8} (hk : 5 ≤ k.val) :
    (compressWords .v20 mb base h)[k] = h[k] :=
  writeHashWords_beyond h (by rw [List.length_zipWith, length_compress1]; omega)

/-- What every byte write into the word `q` keeps, a strobed write of that word keeps (20_memory R75). -/
theorem writeLanes_keeps {P : Memory → Prop} {q : Nat} (hP : ∀ m i v, i < 4 → P m → P (m.write (4 * q + i) v))
    {m : Memory} (hm : P m) (data : Word) (strobes : BitVec 4) : P (writeLanes m q data strobes) := by
  have lane (i : Nat) (hi : i < 4) (m : Memory) (hm : P m) :
      P (if strobes.getLsbD i then m.write (4 * q + i) (data.extractLsb' (8 * i) 8) else m) := by
    split
    · exact hP m i _ hi hm
    · exact hm
  exact lane 3 (by omega) _ (lane 2 (by omega) _ (lane 1 (by omega) _ (lane 0 (by omega) _ hm)))

theorem wf_writeLanes {m : Memory} (hm : m.wf = true) (q : Nat) (data : Word) (strobes : BitVec 4) :
    (writeLanes m q data strobes).wf = true :=
  writeLanes_keeps (fun m _ v _ hm => Memory.wf_write m hm _ v) hm data strobes

theorem below_writeLanes {c : Config} {m : Memory} {q : Nat} (hm : m.below c.msgCap = true) (hq : 4 * q < c.msgCap)
    (data : Word) (strobes : BitVec 4) : (writeLanes m q data strobes).below c.msgCap = true :=
  writeLanes_keeps (fun m _ v hi hm => Memory.below_write m _ hm _ v (word_below_msgCap c hq hi)) hm data strobes

/-- A word index of the address map that names a word of MB lies below MSG_CAP (20_memory R64). -/
theorem target_mb_lt {c : Config} {word q : Nat} (h : target c word = .mb q) : 4 * q < c.msgCap := by
  unfold target at h
  dsimp only at h
  iterate 11 (obtain ⟨-, h⟩ | ⟨-, h⟩ := ite_eq_iff.1 h; · cases h)
  obtain ⟨hr, h⟩ | ⟨-, h⟩ := ite_eq_iff.1 h <;> cases h
  omega

/-- A CTRL write with SRST is the reset; no other bit counts (10_state R30). -/
theorem writeCtrl_of_srst {s : State} {w : Word} (h : w.getLsbD 0 = true) : s.writeCtrl w = s.takeReset := if_pos h

/-- A CTRL write without SRST, field by field (10_state R30, 60_exceptions R288). -/
theorem writeCtrl_of_no_srst {s : State} {w : Word} (h : w.getLsbD 0 = false) :
    s.writeCtrl w = { s with
      ieDone := w.getLsbD 2
      ieErr := w.getLsbD 3
      err := if w.getLsbD 1 = true then .none else s.err
      haz := if w.getLsbD 1 = true then false else s.haz
      done := if w.getLsbD 4 = true then false else s.done } := by
  unfold State.writeCtrl
  rw [if_neg (Bool.eq_false_iff.1 h)]
  cases w.getLsbD 1 <;> cases w.getLsbD 4 <;> rfl

end Sys2Proof.Machine
end

section
/-! The invariant of Safety.lean: the parts of a state it speaks of, each operation that keeps it, then the step. -/

namespace Sys2Proof.Machine

variable {s t : State}

/-- `t` has the message buffer, the parameter and the hash context of `s`: all that the invariant speaks of but the
record bits BUSY, DONE and ERR. -/
structure SameContext (s t : State) : Prop where
  mb : t.mb = s.mb
  config : t.config = s.config
  plen : t.plen = s.plen
  blk : t.blk = s.blk
  hs : t.hs = s.hs
  hv : t.hv = s.hv
  h : t.h = s.h
  dg : t.dg = s.dg

/-- An operation that leaves the context alone keeps the invariant if it keeps the record bits consistent. -/
theorem State.Inv.of_sameContext (hi : s.Inv) (hc : SameContext s t)
    (busyClear : t.busy = true → t.err = .none ∧ t.done = false) (doneClear : t.done = true → t.err = .none) :
    t.Inv := by
  obtain ⟨hmb, hconfig, hplen, hblk, hhs, hhv, hh, hdg⟩ := hc
  have hoffset : t.blockOffset = s.blockOffset := by rw [State.blockOffset, hblk, hhv]; rfl
  constructor
  case busyClear => exact busyClear
  case doneClear => exact doneClear
  all_goals simp only [hmb, hconfig, hplen, hblk, hhs, hhv, hh, hdg, hoffset]
  exacts [hi.canonical, hi.bounded, hi.noMessage, hi.paddedStart, hi.processingStarted, hi.finalizedWhole,
    hi.wholeBlocks, hi.capacity, hi.progress, hi.narrowWords, hi.unusedWords, hi.digestClear, hi.digestHeld]

/-- The same with the record bits left alone too. -/
theorem State.Inv.of_sameRecord (hi : s.Inv) (hc : SameContext s t) (hb : t.busy = s.busy) (hd : t.done = s.done)
    (he : t.err = s.err) : t.Inv :=
  hi.of_sameContext hc (by simpa only [hb, hd, he] using hi.busyClear) (by simpa only [hd, he] using hi.doneClear)

theorem State.Inv.with_schedule (hi : s.Inv) (rest : List Move) : ({ s with schedule := rest } : State).Inv :=
  hi.of_sameRecord ⟨rfl, rfl, rfl, rfl, rfl, rfl, rfl, rfl⟩ rfl rfl rfl

/-- The host may store any bytes in MB while its form and its bound are kept (20_memory R71). -/
theorem State.Inv.with_mb (hi : s.Inv) {mb : Memory} (hw : mb.wf = true) (hb : mb.below s.config.msgCap = true) :
    ({ s with mb := mb } : State).Inv :=
  { hi with canonical := hw, bounded := hb }

/-! ### The end of a command -/

/-- Completion: acceptance had left no error (10_state R28). -/
theorem State.Inv.complete (hi : s.Inv) (hb : s.busy = true) : s.complete.Inv :=
  hi.of_sameContext ⟨rfl, rfl, rfl, rfl, rfl, rfl, rfl, rfl⟩ nofun fun _ => (hi.busyClear hb).1

/-- The error record: acceptance had cleared DONE (60_exceptions R281, R289). -/
theorem State.Inv.raise (hi : s.Inv) (hb : s.busy = true) (e : ErrorCode) : (s.raise e).Inv :=
  hi.of_sameContext ⟨rfl, rfl, rfl, rfl, rfl, rfl, rfl, rfl⟩ nofun fun hd => by
    cases (hi.busyClear hb).2.symm.trans hd

/-! ### The updates of the hash context -/

theorem State.Inv.initHash (hi : s.Inv) (v : Variant) : (s.initHash v).Inv where
  canonical := hi.canonical
  bounded := hi.bounded
  busyClear := hi.busyClear
  doneClear := hi.doneClear
  noMessage _ := ⟨rfl, rfl⟩
  paddedStart := nofun
  processingStarted := nofun
  finalizedWhole := nofun
  wholeBlocks := Nat.dvd_zero _
  capacity := Nat.zero_le _
  progress := by simp [State.blockOffset]
  narrowWords _ hv k := initialWords_narrow hv k
  unusedWords := by
    rintro - (rfl : v = .v20) k hk
    exact initialWords_unused hk
  digestClear _ := rfl
  digestHeld := nofun

/-- The padded length of a message that fits is below 2^31 and so held in PLEN as it is (10_state R32). -/
theorem State.padMessage_plen_toNat (fits : messageTooLong s.config.msgCap s.hv s.mlen.toNat = false) :
    s.padMessage.plen.toNat = paddedLength s.hv s.mlen.toNat := by
  have hcap := (messageTooLong_eq_false.1 fits).2
  have := msgCap_lt s.config
  exact (BitVec.toNat_ofNat ..).trans (Nat.mod_eq_of_lt (by omega))

theorem State.Inv.padMessage (hi : s.Inv) (hs : s.hs = .initialized)
    (fits : messageTooLong s.config.msgCap s.hv s.mlen.toNat = false) : s.padMessage.Inv where
  canonical := Memory.wf_writeBytes _ _ hi.canonical _
  bounded := by
    refine Memory.below_writeBytes _ _ _ hi.bounded _ ?_
    rw [add_length_padding]
    exact (messageTooLong_eq_false.1 fits).2
  busyClear := hi.busyClear
  doneClear := hi.doneClear
  noMessage := nofun
  paddedStart _ := by
    refine ⟨rfl, fun h0 => ?_⟩
    have hp := State.padMessage_plen_toNat fits
    have room := paddedLength_room s.hv s.mlen.toNat
    have hz : s.padMessage.plen.toNat = 0 := congrArg BitVec.toNat h0
    omega
  processingStarted := nofun
  finalizedWhole := nofun
  wholeBlocks := by
    rw [State.padMessage_plen_toNat fits]
    exact blockBytes_dvd_paddedLength _ _
  capacity := by
    rw [State.padMessage_plen_toNat fits]
    exact (messageTooLong_eq_false.1 fits).2
  progress := by simp [State.blockOffset]
  narrowWords _ := hi.narrowWords (by simp [hs])
  unusedWords _ := hi.unusedWords (by simp [hs])
  digestClear _ := hi.digestClear (.inl hs)
  digestHeld := nofun

/-- While a block is left BLK does not wrap: it is below PLEN, which is below 2^31 (10_state R33). -/
theorem State.Inv.blk_succ_toNat (hi : s.Inv) (left : s.blockOffset < s.plen.toNat) :
    (s.blk + 1).toNat = s.blk.toNat + 1 := by
  have hle : s.blk.toNat ≤ s.blockOffset := Nat.le_mul_of_pos_right _ (blockBytes_pos s.hv)
  have hcap := hi.capacity
  have := msgCap_lt s.config
  rw [BitVec.toNat_add, show (1 : Word).toNat = 1 from rfl]
  exact Nat.mod_eq_of_lt (by omega)

/-- One block advances the offset by the block size (42_hash R173). -/
theorem State.Inv.compressBlock_blockOffset (hi : s.Inv) (left : s.blockOffset < s.plen.toNat) :
    s.compressBlock.blockOffset = s.blockOffset + blockBytes s.hv := by
  simp only [State.blockOffset, State.compressBlock_blk, State.compressBlock_hv, hi.blk_succ_toNat left, Nat.succ_mul]

/-- A block that begins below PLEN ends at or below it, since PLEN is whole blocks (10_state R32). -/
theorem State.Inv.block_le_plen (hi : s.Inv) (left : s.blockOffset < s.plen.toNat) :
    s.blockOffset + blockBytes s.hv ≤ s.plen.toNat := by
  have hoffset : blockBytes s.hv ∣ s.blockOffset := Nat.dvd_mul_left _ _
  have hpos := Nat.sub_pos_of_lt left
  have := Nat.le_of_dvd hpos (Nat.dvd_sub hi.wholeBlocks hoffset)
  omega

theorem State.Inv.compressBlock (hi : s.Inv) (hs : s.hs = .padded ∨ s.hs = .processing)
    (left : s.blockOffset < s.plen.toNat) : s.compressBlock.Inv where
  canonical := hi.canonical
  bounded := hi.bounded
  busyClear := hi.busyClear
  doneClear := hi.doneClear
  noMessage := nofun
  paddedStart := nofun
  processingStarted _ h0 := by
    have := hi.blk_succ_toNat left
    rw [show s.blk + 1 = 0 from h0] at this
    simp at this
  finalizedWhole := nofun
  wholeBlocks := hi.wholeBlocks
  capacity := hi.capacity
  progress := hi.compressBlock_blockOffset left ▸ hi.block_le_plen left
  narrowWords _ hv k := compressWords_narrow hv (hi.narrowWords (by rcases hs with h | h <;> simp [h]) hv) _ _ k
  unusedWords _ hv k hk := by
    have h0 := hi.unusedWords (by rcases hs with h | h <;> simp [h]) hv k hk
    simp only [State.compressBlock_hv] at hv
    rw [State.compressBlock_h, hv, compressWords_unused _ _ _ hk, h0]
  digestClear _ := hi.digestClear (.inr hs)
  digestHeld := nofun

theorem State.Inv.finalizeHash (hi : s.Inv) (hs : s.hs = .padded ∨ s.hs = .processing)
    (whole : s.blockOffset = s.plen.toNat) : s.finalizeHash.Inv where
  canonical := hi.canonical
  bounded := hi.bounded
  busyClear := hi.busyClear
  doneClear := hi.doneClear
  noMessage := nofun
  paddedStart := nofun
  processingStarted := nofun
  finalizedWhole _ := whole
  wholeBlocks := hi.wholeBlocks
  capacity := hi.capacity
  progress := hi.progress
  narrowWords _ := hi.narrowWords (by rcases hs with h | h <;> simp [h])
  unusedWords _ := hi.unusedWords (by rcases hs with h | h <;> simp [h])
  digestClear := nofun
  digestHeld _ := rfl

/-- Compressing exactly the blocks left, however many, ends in a state of the invariant with none left (42_hash
R177). -/
theorem State.Inv.compressBlocks {n : Nat} (hi : s.Inv) (hs : s.hs = .padded ∨ s.hs = .processing)
    (hn : s.blockOffset + n * blockBytes s.hv = s.plen.toNat) :
    (s.compressBlocks n).Inv ∧ ((s.compressBlocks n).hs = .padded ∨ (s.compressBlocks n).hs = .processing) ∧
    (s.compressBlocks n).blockOffset = (s.compressBlocks n).plen.toNat := by
  induction n generalizing s with
  | zero => exact ⟨hi, hs, by simpa [State.compressBlocks] using hn⟩
  | succ n ih =>
    have hpos := blockBytes_pos s.hv
    rw [Nat.succ_mul] at hn
    have left : s.blockOffset < s.plen.toNat := by omega
    refine ih (hi.compressBlock hs left) (.inr rfl) ?_
    rw [hi.compressBlock_blockOffset left, State.compressBlock_hv, State.compressBlock_plen]
    omega

/-- H_DIGEST keeps the invariant because its parts do (42_hash R177). -/
theorem State.Inv.digestMessage (hi : s.Inv) (v : Variant)
    (fits : messageTooLong s.config.msgCap v s.mlen.toNat = false) : (s.digestMessage v).Inv := by
  have hpad := (hi.initHash v).padMessage rfl fits
  have hblocks : (s.initHash v).padMessage.blockOffset +
      (s.initHash v).padMessage.plen.toNat / blockBytes v * blockBytes v = (s.initHash v).padMessage.plen.toNat := by
    rw [Nat.div_mul_cancel (show blockBytes v ∣ _ from hpad.wholeBlocks)]
    simp [State.blockOffset]
  obtain ⟨hinv, hs, whole⟩ := hpad.compressBlocks (.inl rfl) hblocks
  exact hinv.finalizeHash hs whole

/-! ### The engine -/

/-- What a command has written before completion meets the invariant and is still in execution. -/
theorem State.Inv.writes {i : Instr} {u : State} (hi : s.Inv) (hu : Writes s i u) : u.Inv ∧ u.busy = s.busy := by
  cases hu with
  | nop => exact ⟨hi, rfl⟩
  | ldc | residue | point => exact ⟨hi.of_sameRecord ⟨rfl, rfl, rfl, rfl, rfl, rfl, rfl, rfl⟩ rfl rfl rfl, rfl⟩
  | hInit v => exact ⟨hi.initHash v, rfl⟩
  | hPad hs fits => exact ⟨hi.padMessage hs fits, rfl⟩
  | hCompress hs left => exact ⟨hi.compressBlock hs left, rfl⟩
  | hFinal hs whole => exact ⟨hi.finalizeHash (.inr hs) whole, rfl⟩
  | hDigest v fits => exact ⟨hi.digestMessage v fits, by rw [digestMessage_frame]⟩

/-- A command in execution keeps the invariant. -/
theorem State.Inv.exec {i : Instr} (hi : s.Inv) (hb : s.busy = true) (h : exec i s = .next t) : t.Inv := by
  obtain ⟨e, rfl⟩ | ⟨u, hu, rfl⟩ := exec_next h
  · exact hi.raise hb e
  · obtain ⟨hinv, hbusy⟩ := hi.writes hu
    exact hinv.complete (hbusy.trans hb)

theorem State.Inv.engineMove (hi : s.Inv) (h : engineMove s = .next t) : t.Inv := by
  obtain ⟨-, hm⟩ | ⟨hb, -, hm⟩ | ⟨hb, i, -, hm⟩ := engineMove_cases s
  · cases hm.symm.trans h
    exact hi
  · obtain rfl := fail_next.1 (hm ▸ h)
    exact hi.raise hb _
  · exact hi.exec hb (hm ▸ h)

/-! ### The host and the reset input -/

theorem State.Inv.takeReset (s : State) : s.takeReset.Inv where
  canonical := Memory.wf_ofFn _ _
  bounded := Memory.below_ofFn _ _
  busyClear := nofun
  doneClear := nofun
  noMessage _ := ⟨rfl, rfl⟩
  paddedStart := nofun
  processingStarted := nofun
  finalizedWhole := nofun
  wholeBlocks := Nat.dvd_zero _
  capacity := Nat.zero_le _
  progress := by simp [State.blockOffset]
  narrowWords h := absurd rfl h
  unusedWords h := absurd rfl h
  digestClear := by simp
  digestHeld := nofun

theorem State.Inv.hazard (hi : s.Inv) : s.hazard.Inv :=
  hi.of_sameRecord ⟨rfl, rfl, rfl, rfl, rfl, rfl, rfl, rfl⟩ rfl rfl rfl

theorem State.Inv.fullWrite (hi : s.Inv) (ht : t.Inv) (strobes : BitVec 4) : (s.fullWrite strobes t).Inv := by
  unfold State.fullWrite
  split
  · exact ht
  · exact hi.hazard

theorem State.Inv.idleWrite (hi : s.Inv) (ht : t.Inv) : (s.idleWrite t).Inv := by
  unfold State.idleWrite
  split
  · exact hi.hazard
  · exact ht

theorem State.Inv.writeCmd (hi : s.Inv) (w : Word) : (s.writeCmd w).Inv := by
  obtain ⟨-, h⟩ | ⟨-, he, h⟩ := writeCmd_cases s w <;> rw [h]
  · exact hi.hazard
  · exact hi.of_sameContext ⟨rfl, rfl, rfl, rfl, rfl, rfl, rfl, rfl⟩ (fun _ => ⟨he, rfl⟩) nofun

/-- CTRL clears ERR and DONE and never sets them (10_state R30). -/
theorem State.Inv.writeCtrl (hi : s.Inv) (w : Word) : (s.writeCtrl w).Inv := by
  cases hw : w.getLsbD 0 with
  | true => exact writeCtrl_of_srst hw ▸ .takeReset s
  | false =>
    rw [writeCtrl_of_no_srst hw]
    refine hi.of_sameContext ⟨rfl, rfl, rfl, rfl, rfl, rfl, rfl, rfl⟩ (fun hb => ?_) fun hd => ?_
    · simp [hi.busyClear hb]
    · have hs : s.done = true := by simp_all
      simp [hi.doneClear hs]

theorem State.Inv.busRead (hi : s.Inv) (word : Nat) : (s.busRead word).Inv := by
  obtain ⟨-, -, h⟩ | ⟨-, h⟩ := busRead_cases s word <;> rw [h] <;>
    exact hi.of_sameRecord ⟨rfl, rfl, rfl, rfl, rfl, rfl, rfl, rfl⟩ rfl rfl rfl

theorem State.Inv.busWrite (hi : s.Inv) (word : Nat) (data : Word) (strobes : BitVec 4) :
    (s.busWrite word data strobes).Inv := by
  unfold State.busWrite
  split
  · exact hi
  cases ht : target s.config word with
  | cmd => exact hi.fullWrite (hi.writeCmd data) strobes
  | ctrl => exact hi.fullWrite (hi.writeCtrl data) strobes
  | mlen | b =>
    refine hi.fullWrite (hi.idleWrite ?_) strobes
    exact hi.of_sameRecord ⟨rfl, rfl, rfl, rfl, rfl, rfl, rfl, rfl⟩ rfl rfl rfl
  | mb q =>
    have hq := target_mb_lt ht
    refine hi.idleWrite (hi.with_mb ?_ ?_)
    · exact wf_writeLanes hi.canonical q data strobes
    · exact below_writeLanes hi.bounded hq data strobes
  | id | status | plen | blk | cap | dg | h | reserved => exact hi

/-- Settles O9: the invariant is kept by the engine's move, by every host access and by the reset input. -/
theorem stepKeepsInvariant : Obligations.StepKeepsInvariant := by
  intro s t hi h
  obtain ⟨-, hs⟩ | ⟨rest, -, hs⟩ | ⟨a, rest, -, hs⟩ | ⟨rest, -, hs⟩ := step_cases s
  · exact hi.engineMove (hs ▸ h)
  · exact (hi.with_schedule rest).engineMove (hs ▸ h)
  · cases hs.symm.trans h
    cases a with
    | read word => exact (hi.with_schedule rest).busRead word
    | write word data strobes => exact (hi.with_schedule rest).busWrite word data strobes
  · cases hs.symm.trans h
    exact .takeReset _

/-- Settles O8: nothing is in execution, there is no hash context and MB lists nothing. -/
theorem resetMeetsInvariant : Obligations.ResetMeetsInvariant where
  canonical := rfl
  bounded := rfl
  busyClear := nofun
  doneClear := nofun
  noMessage _ := ⟨rfl, rfl⟩
  paddedStart := nofun
  processingStarted := nofun
  finalizedWhole := nofun
  wholeBlocks := Nat.dvd_zero _
  capacity := Nat.zero_le _
  progress := Nat.zero_le _
  narrowWords h := absurd rfl h
  unusedWords h := absurd rfl h
  digestClear := by simp [State.reset]
  digestHeld := nofun

end Sys2Proof.Machine
end

section
/-! SUPPORT. The host's accesses: the step of a scheduled access, the words of the map the statements name, and the
bits of a word of B. -/

namespace Sys2Proof.Machine

open Sys2Proof.Claims

variable {s : State}

/-- A scheduled host access is the whole step (20_memory R77). -/
theorem step_of_hostTurn {a : BusAccess} {rest : List Move} (ht : HostTurn s a rest) :
    step s = .next (State.busAccess { s with schedule := rest } a) := by
  rw [step, show s.schedule = _ from ht]
  rfl

/-- Word `j` of `B[i]` stands at its offset in the map (20_memory R64, R68). -/
theorem target_bigWord (c : Config) (i : Reg) {j : Nat} (hj : j < 16) :
    target c ((0x0400 + 64 * i.val + 4 * j) / 4) = .b i j := by
  have hi := i.isLt
  have hoffset : 4 * ((0x0400 + 64 * i.val + 4 * j) / 4) = 0x0400 + 64 * i.val + 4 * j := by omega
  have hreg : (0x0400 + 64 * i.val + 4 * j - 0x0400) / 64 = i.val := by omega
  have hword : (0x0400 + 64 * i.val + 4 * j - 0x0400) % 64 / 4 = j := by omega
  unfold target
  dsimp only
  rw [hoffset, hreg, hword]
  iterate 10 rw [if_neg (by omega)]
  rw [if_pos (by omega)]
  simp

/-- A full write of an idle engine's word is its effect. -/
theorem fullWrite_idleWrite {t : State} (hb : s.busy = false) : s.fullWrite 0xF (s.idleWrite t) = t := by
  rw [State.fullWrite, if_pos rfl, State.idleWrite, hb]
  rfl

/-- A write with strobes that names a word of B (20_memory R68, R75). -/
theorem busWrite_bigWord {word j : Nat} {i : Reg} (ht : target s.config word = .b i j) (hb : s.busy = false)
    (data : Word) : s.busWrite word data 0xF = s.writeB i (replaceWord (s.readB i) j data) := by
  rw [State.busWrite, if_neg (by decide), ht]
  exact fullWrite_idleWrite hb

/-- A write of CTRL with some strobe set (10_state R30, 20_memory R75). -/
theorem busWrite_ctrl {strobes : BitVec 4} (hs : strobes ≠ 0) (w : Word) :
    s.busWrite 3 w strobes = s.fullWrite strobes (s.writeCtrl w) := if_neg hs

/-- The bits of a register after a word write: the 32 of the word, and the other 480 as before (20_memory R68). -/
theorem getLsbD_replaceWord (v : Big) {j : Nat} (hj : j < 16) (w : Word) (n : Nat) :
    (replaceWord v j w).getLsbD n =
      if 32 * j ≤ n ∧ n < 32 * j + 32 then w.getLsbD (n - 32 * j) else v.getLsbD n := by
  simp only [replaceWord, BitVec.getLsbD_or, BitVec.getLsbD_and, BitVec.getLsbD_not, BitVec.getLsbD_shiftLeft,
    BitVec.getLsbD_setWidth, BitVec.getLsbD_allOnes]
  by_cases hlow : n < 32 * j
  · simp [hlow, show n < 512 by omega, show ¬ 32 * j ≤ n by omega]
  by_cases hhigh : n < 32 * j + 32
  · simp [hlow, hhigh, show n < 512 by omega, show 32 * j ≤ n by omega, show n - 32 * j < 512 by omega,
      show n - 32 * j < 32 by omega]
  · have hw : w.getLsbD (n - 32 * j) = false := BitVec.getLsbD_of_ge w _ (by omega)
    simpa [hlow, hhigh, hw, show ¬ n - 32 * j < 32 by omega] using BitVec.lt_of_getLsbD

theorem ErrorCode.code_le (e : ErrorCode) : e.code ≤ 5 := by cases e <;> decide

theorem HashState.code_le (hs : HashState) : hs.code ≤ 4 := by cases hs <;> decide

theorem number_le (v : Variant) : v.number ≤ 2 := by cases v <;> decide

/-- STATUS is the sum of its fields, each at its place: no field reaches the next or is lost (10_state R29). -/
theorem statusWord_bits (s : State) :
    bits s.statusWord 0 0 = s.busy.toNat ∧ bits s.statusWord 1 1 = s.done.toNat ∧
    bits s.statusWord 2 2 = s.z.toNat ∧ bits s.statusWord 3 3 = s.inf.toNat ∧ bits s.statusWord 7 4 = s.err.code ∧
    bits s.statusWord 10 8 = s.hs.code ∧ bits s.statusWord 11 11 = s.haz.toNat ∧
    bits s.statusWord 13 12 = s.hv.number ∧ bits s.statusWord 31 14 = 0 := by
  have hbusy := s.busy.toNat_lt
  have hdone := s.done.toNat_lt
  have hz := s.z.toNat_lt
  have hinf := s.inf.toNat_lt
  have herr := s.err.code_le
  have hhs := s.hs.code_le
  have hhaz := s.haz.toNat_lt
  have hhv := number_le s.hv
  simp only [bits, State.statusWord, BitVec.toNat_ofNat]
  omega

end Sys2Proof.Machine
end

section
/-! The control registers and the word access of the host. -/

namespace Sys2Proof.Machine

open Sys2Proof.Claims

/-- Settles O57: an idle full write is its effect on MLEN, or on the one word of `B[i]` that its offset names. -/
theorem mlenAndBigRegisterWordAccess : Obligations.MlenAndBigRegisterWordAccess := by
  constructor
  · intro s n rest hb ht
    refine ⟨rfl, (step_of_hostTurn ht).trans (congrArg _ ?_)⟩
    exact fullWrite_idleWrite hb
  · intro s i j data rest hj hb ht
    have hidle : State.busy { s with schedule := rest } = false := hb
    have hwrite := busWrite_bigWord (target_bigWord _ i hj) hidle data
    refine ⟨?_, _, (step_of_hostTurn ht).trans (congrArg _ hwrite), ?_⟩
    · simp only [State.windowWord, BitVec.extractLsb'_toNat, Nat.shiftRight_eq_div_pow]
    · refine ⟨fun n => ?_, fun k hk => State.readB_writeB_other _ _ hk, rfl⟩
      rw [State.readB_writeB_same]
      exact getLsbD_replaceWord _ hj data n

/-- Settles O51: the two cases of a CMD write exclude each other. -/
theorem commandWriteAcceptedOrDropped : Obligations.CommandWriteAcceptedOrDropped := by
  intro s w rest ht
  refine ⟨fun hb he => ?_, fun h => ?_, rfl⟩ <;> refine (step_of_hostTurn ht).trans (congrArg _ ?_)
  · obtain ⟨hn, -⟩ | ⟨-, -, hw⟩ := writeCmd_cases { s with schedule := rest } w
    · simp [hb, he] at hn
    · exact hw
  · obtain ⟨-, hw⟩ | ⟨hb, he, -⟩ := writeCmd_cases { s with schedule := rest } w
    · exact hw
    · simp [show s.busy = false from hb, show s.err = .none from he] at h

/-- Settles O52: the CTRL write is a full write of the reset or of the bits; the read is one of four words. -/
theorem controlWriteActs : Obligations.ControlWriteActs := by
  intro s w strobes rest ht
  have hstep (hs : strobes ≠ 0) : step s = .next (State.fullWrite { s with schedule := rest } strobes
      (State.writeCtrl { s with schedule := rest } w)) :=
    (step_of_hostTurn ht).trans (congrArg _ (busWrite_ctrl hs w))
  refine ⟨?_, ?_, ?_, ?_⟩
  · rintro rfl hw
    rw [hstep (by decide), State.fullWrite, if_pos rfl, writeCtrl_of_srst hw]
  · rintro rfl hw
    rw [hstep (by decide), State.fullWrite, if_pos rfl, writeCtrl_of_no_srst hw]
  · intro h0 hF
    rw [hstep h0, State.fullWrite, if_neg hF]
    rfl
  · simp only [State.windowWord, State.ctrlWord]
    cases s.ieDone <;> cases s.ieErr <;> decide

/-- Settles O56: STATUS field by field; MSG_CAP is below 2^31, so CAP reads it whole. -/
theorem controlRegisterReadsAndInterrupt : Obligations.ControlRegisterReadsAndInterrupt := by
  refine ⟨fun s => ?_, rfl, rfl, rfl⟩
  have hcap : (s.windowWord .cap).toNat = s.config.msgCap := by
    have := msgCap_lt s.config
    exact (BitVec.toNat_ofNat ..).trans (Nat.mod_eq_of_lt (by omega))
  obtain ⟨hbusy, hdone, hz, hinf, herr, hhs, hhaz, hhv, hrest⟩ := statusWord_bits s
  refine ⟨rfl, hcap, rfl, rfl, hbusy, hdone, hz, hinf, herr, hhs, hhaz, hhv, hrest, ?_⟩
  simp [State.irq]

end Sys2Proof.Machine
end

section
/-! SUPPORT. The rest of the address map: the arrays and the reserved ranges (20_memory R64, R65). -/

namespace Sys2Proof.Machine

/-- Word `k` of DG stands at its offset in the map (20_memory R64, R70). -/
theorem target_digestWord (c : Config) {k : Nat} (hk : k < 16) : target c ((0x0040 + 4 * k) / 4) = .dg k := by
  have hoffset : 4 * ((0x0040 + 4 * k) / 4) = 0x0040 + 4 * k := by omega
  have hword : (0x0040 + 4 * k - 0x0040) / 4 = k := by omega
  unfold target
  dsimp only
  rw [hoffset, hword]
  iterate 8 rw [if_neg (by omega)]
  exact if_pos (by omega)

/-- Word `k` of H stands at its offset in the map (20_memory R64, R69). -/
theorem target_hashWord (c : Config) {k : Nat} (hk : k < 16) : target c ((0x0080 + 4 * k) / 4) = .h k := by
  have hoffset : 4 * ((0x0080 + 4 * k) / 4) = 0x0080 + 4 * k := by omega
  have hword : (0x0080 + 4 * k - 0x0080) / 4 = k := by omega
  unfold target
  dsimp only
  rw [hoffset, hword]
  iterate 9 rw [if_neg (by omega)]
  exact if_pos (by omega)

/-- Word `q` of MB stands at its offset in the map, up to the capacity (20_memory R64, R71). -/
theorem target_messageWord (c : Config) {q : Nat} (hq : 4 * q < c.msgCap) :
    target c ((0x1000 + 4 * q) / 4) = .mb q := by
  have hoffset : 4 * ((0x1000 + 4 * q) / 4) = 0x1000 + 4 * q := by omega
  have hword : (0x1000 + 4 * q - 0x1000) / 4 = q := by omega
  unfold target
  dsimp only
  rw [hoffset, hword]
  iterate 11 rw [if_neg (by omega)]
  exact if_pos (by omega)

/-- The ranges that the map leaves out are reserved (20_memory R64, R65). -/
theorem target_reserved (c : Config) {word : Nat}
    (h : (0x0020 ≤ 4 * word ∧ 4 * word ≤ 0x003F) ∨ (0x00C0 ≤ 4 * word ∧ 4 * word ≤ 0x03FF) ∨
      (0x0800 ≤ 4 * word ∧ 4 * word ≤ 0x0FFF) ∨ 0x1000 + c.msgCap ≤ 4 * word) :
    target c word = .reserved := by
  unfold target
  dsimp only
  iterate 11 rw [if_neg (by omega)]
  exact if_neg (by omega)

/-- Settles O50: the eight registers are at fixed offsets; each array, and the reserved ranges, have their lemma. -/
theorem addressMap : Obligations.AddressMap := by
  intro c
  refine ⟨rfl, rfl, rfl, rfl, rfl, rfl, rfl, rfl, ?_, ?_, ?_, ?_, ?_⟩
  · exact fun _ => target_digestWord c
  · exact fun _ => target_hashWord c
  · exact fun i _ => target_bigWord c i
  · exact fun _ => target_messageWord c
  · exact fun _ => target_reserved c

end Sys2Proof.Machine
end

section
/-! What the host reads: any word, the lanes of DG and MB, the halves of H (20_memory R67 to R71). -/

namespace Sys2Proof.Machine

open Sys2Proof.Claims

/-- A read of a word the engine does not own, or of any word while idle, returns its value (20_memory R67). -/
theorem busRead_of_free {s : State} {word : Nat} (h : s.busy = false ∨ (target s.config word).owned = false) :
    s.busRead word = { s with readData := s.windowWord (target s.config word) } := by
  obtain ⟨hb, ho, -⟩ | ⟨-, hr⟩ := busRead_cases s word
  · simp [hb, ho] at h
  · exact hr

/-- While BUSY a read of a word the engine owns returns the next free value (70_reset R317). -/
theorem busRead_of_owned {s : State} {word : Nat} (hb : s.busy = true) (ho : (target s.config word).owned = true) :
    s.busRead word = { s with readData := Config.freeReadWord s.draws, draws := s.draws + 1 } := by
  obtain ⟨-, -, hr⟩ | ⟨h, -⟩ := busRead_cases s word
  · exact hr
  · simp [hb, ho] at h

/-- Settles O55: the words of the first clause are the ones the engine does not own, those of the second the ones it
does. -/
theorem readsChangeNothing : Obligations.ReadsChangeNothing := by
  intro s word rest ht g
  have hstep := step_of_hostTurn ht
  refine ⟨fun h => ?_, fun hb h => ?_, fun h => ?_⟩
  · refine hstep.trans (congrArg _ (busRead_of_free (h.imp_right fun h => ?_)))
    change g.owned = false
    obtain h | h | h | h | h | h := h <;> rw [h] <;> rfl
  · refine ⟨_, hstep.trans (congrArg _ (busRead_of_owned hb ?_))⟩
    change g.owned = true
    obtain h | h | h | ⟨i, j, h⟩ | ⟨k, h⟩ | ⟨k, h⟩ | ⟨q, h⟩ := h <;> rw [h] <;> rfl
  · rw [h]
    rfl

/-- A bus word of four bytes as a number (20_memory R73). -/
theorem toNat_laneWord (b0 b1 b2 b3 : Byte) :
    (laneWord b0 b1 b2 b3).toNat = b0.toNat + 2 ^ 8 * b1.toNat + 2 ^ 16 * b2.toNat + 2 ^ 24 * b3.toNat := by
  simp only [laneWord, leInt, List.foldr, BitVec.toNat_ofNat]
  omega

/-- Lane `r` of a bus word of four bytes in a row is the byte `r` places on (20_memory R73). -/
theorem bits_laneWord (f : Nat → Byte) (a : Nat) {r : Nat} (hr : r < 4) :
    bits (laneWord (f a) (f (a + 1)) (f (a + 2)) (f (a + 3))) (8 * r + 7) (8 * r) = (f (a + r)).toNat := by
  have h0 := (f a).isLt
  have h1 := (f (a + 1)).isLt
  have h2 := (f (a + 2)).isLt
  have h3 := (f (a + 3)).isLt
  rw [bits, toNat_laneWord]
  interval_cases r
  · rw [Nat.add_zero a]
    omega
  all_goals omega

/-- The two words of `H[k]` are its halves, the low one first (20_memory R69). -/
theorem toNat_hashHalf (s : State) (k : Fin 8) {half : Nat} (hh : half < 2) :
    (s.windowWord (.h (2 * k.val + half))).toNat = (s.h[k]).toNat / 2 ^ (32 * half) % 2 ^ 32 := by
  have hindex : (2 * k.val + half) / 2 = k.val := by omega
  have hparity : (2 * k.val + half) % 2 = half := by omega
  have hget : s.h[k.val]?.getD 0 = s.h[k] := by simp
  rw [State.windowWord, hindex, hparity, hget, BitVec.extractLsb'_toNat, Nat.shiftRight_eq_div_pow]

/-- Settles O60: DG by lanes, H by halves; the invariant keeps a 32-bit hash word below 2^32. -/
theorem digestAndHashWordReads : Obligations.DigestAndHashWordReads := by
  intro s word
  constructor
  · intro k
    have hword : word (0x0040 + 4 * (k.val / 4)) = s.windowWord (.dg (k.val / 4)) :=
      congrArg s.windowWord (target_digestWord _ (by omega))
    rw [hword]
    refine (bits_laneWord (fun n => s.dg[n]?.getD 0) _ (Nat.mod_lt _ (by decide))).trans ?_
    simp [Nat.div_add_mod]
  · intro k
    have hlow : word (0x0080 + 8 * k.val) = s.windowWord (.h (2 * k.val + 0)) := by
      rw [← target_hashWord s.config (by omega), show 4 * (2 * k.val + 0) = 8 * k.val by omega]
    have hhigh : word (0x0080 + 8 * k.val + 4) = s.windowWord (.h (2 * k.val + 1)) := by
      rw [← target_hashWord s.config (by omega), show 0x0080 + 4 * (2 * k.val + 1) = 0x0080 + 8 * k.val + 4 by omega]
    have hbound := (s.h[k]).isLt
    have hupper : (s.windowWord (.h (2 * k.val + 1))).toNat = (s.h[k]).toNat / 2 ^ 32 := by
      rw [toNat_hashHalf s k (by decide)]
      omega
    rw [hlow, hhigh]
    refine ⟨?_, hupper, fun hi hs hv => BitVec.eq_of_toNat_eq ?_⟩
    · rw [toNat_hashHalf s k (by decide), Nat.mul_zero, pow_zero, Nat.div_one]
    · exact hupper.trans (Nat.div_eq_of_lt (hi.narrowWords hs hv k))

end Sys2Proof.Machine
end

section
/-! Strobed writes of a word of MB, lane by lane (20_memory R71, R75). -/

namespace Sys2Proof.Machine

/-- One lane of a strobed word write to MB (20_memory R71, R75). -/
def storeLane (q : Nat) (data : Word) (strobes : BitVec 4) (m : Memory) (i : Nat) : Memory :=
  if strobes.getLsbD i then m.write (4 * q + i) (data.extractLsb' (8 * i) 8) else m

theorem writeLanes_eq_foldl (m : Memory) (q : Nat) (data : Word) (strobes : BitVec 4) :
    writeLanes m q data strobes = (List.range 4).foldl (storeLane q data strobes) m := rfl

theorem wf_storeLane {m : Memory} (hm : m.wf = true) (q : Nat) (data : Word) (strobes : BitVec 4) (i : Nat) :
    (storeLane q data strobes m i).wf = true := by
  unfold storeLane
  split
  · exact Memory.wf_write m hm _ _
  · exact hm

theorem read_storeLane {m : Memory} (hm : m.wf = true) (q : Nat) (data : Word) (strobes : BitVec 4) {i : Nat}
    (hi : i < 4) (a : Nat) :
    (storeLane q data strobes m i).read a =
      if a / 4 = q ∧ a % 4 = i ∧ strobes.getLsbD i = true then data.extractLsb' (8 * i) 8 else m.read a := by
  unfold storeLane
  split
  case isTrue hs =>
    rw [Memory.read_write m ((Memory.wf_iff m).1 hm).1]
    refine if_congr ?_ rfl rfl
    simp only [hs, and_true]
    omega
  case isFalse hs => simp [hs]

/-- Lanes stored one after the other change exactly the bytes of those lanes whose strobe is set. -/
theorem read_foldl_storeLane (q : Nat) (data : Word) (strobes : BitVec 4) (a : Nat) (lanes : List Nat)
    (hl : ∀ i ∈ lanes, i < 4) {m : Memory} (hm : m.wf = true) :
    (lanes.foldl (storeLane q data strobes) m).read a =
      if a / 4 = q ∧ a % 4 ∈ lanes ∧ strobes.getLsbD (a % 4) = true then data.extractLsb' (8 * (a % 4)) 8
      else m.read a := by
  induction lanes generalizing m with
  | nil => simp
  | cons i lanes ih =>
    obtain ⟨hi, hl⟩ := List.forall_mem_cons.1 hl
    rw [List.foldl_cons, ih hl (wf_storeLane hm ..), read_storeLane hm _ _ _ hi]
    by_cases h : a % 4 = i
    · subst h
      rw [← ite_or]
      exact if_congr (by rw [List.mem_cons]; tauto) rfl rfl
    · simp [h]

/-- A strobed word write stores the bytes of its word whose strobe is set (20_memory R71, R75). -/
theorem read_writeLanes {m : Memory} (hm : m.wf = true) (q : Nat) (data : Word) (strobes : BitVec 4) (a : Nat) :
    (writeLanes m q data strobes).read a =
      if a / 4 = q ∧ strobes.getLsbD (a % 4) = true then data.extractLsb' (8 * (a % 4)) 8 else m.read a := by
  have hlane : a % 4 ∈ List.range 4 := List.mem_range.2 (Nat.mod_lt _ (by decide))
  rw [writeLanes_eq_foldl, read_foldl_storeLane q data strobes a _ (fun _ => List.mem_range.1) hm]
  exact if_congr (and_congr_right fun _ => and_iff_right hlane) rfl rfl

/-- An idle write of a word of MB, also one with no strobe, is the write of its lanes (20_memory R71, R75). -/
theorem busWrite_messageWord {s : State} {word q : Nat} (ht : target s.config word = .mb q) (hb : s.busy = false)
    (data : Word) (strobes : BitVec 4) :
    s.busWrite word data strobes = { s with mb := writeLanes s.mb q data strobes } := by
  rw [State.busWrite, ht]
  split
  case isTrue h0 =>
    subst h0
    simp [writeLanes]
  case isFalse => simp [State.idleWrite, hb]

/-- Settles O59: the write is that of its lanes, the read the sum of them. -/
theorem messageWordAccess : Obligations.MessageWordAccess := by
  intro s q data strobes rest hm hb hq ht
  have hwrite := busWrite_messageWord (s := { s with schedule := rest }) (target_messageWord _ hq) hb data strobes
  refine ⟨toNat_laneWord .., _, (step_of_hostTurn ht).trans (congrArg _ hwrite), fun a => ?_, rfl⟩
  simp only [read_writeLanes hm, BitVec.extractLsb', Nat.shiftRight_eq_div_pow]

end Sys2Proof.Machine
end

section
/-! The sixteen writes of HostWriteB: each replaces one word, and together they replace the register (20_memory R66,
R68). -/

namespace Sys2Proof.Machine

open Sys2Proof.Claims

variable {s : State}

/-- Of two writes to one register the last one stands (10_state R22). -/
@[simp] theorem State.writeB_writeB_same (s : State) (i : Reg) (u v : Big) :
    (s.writeB i u).writeB i v = s.writeB i v := by
  simp [State.writeB]

/-- A register written with its own value is as before. -/
@[simp] theorem State.writeB_readB (s : State) (i : Reg) : s.writeB i (s.readB i) = s := by
  simp [State.writeB, State.readB]

/-- A run continues from the next state of its first step. -/
theorem run_succ_of_step {t : State} (n : Nat) (h : step s = .next t) :
    Host.Core.run Sys2Proof.core (n + 1) s = Host.Core.run Sys2Proof.core n t := by
  have hcore : Sys2Proof.core.step s = .next t := h
  simp only [Host.Core.run, hcore]

/-- The writes of the words `js` of `v` to `B[i]`, of which HostWriteB makes all sixteen (20_memory R66, R68). -/
def bigWordWrites (i : Reg) (v : Big) (js : List Nat) : List Move :=
  js.map fun j => writeAt (0x0400 + 64 * i.val + 4 * j) (v.extractLsb' (32 * j) 32)

theorem hostWriteB_eq_bigWordWrites (i : Reg) (v : Big) : hostWriteB i v = bigWordWrites i v (List.range 16) := rfl

/-- `s` with `w` in `B[i]` and `moves` to come: each state of HostWriteB, from the first to the last. -/
def withBigWord (s : State) (i : Reg) (w : Big) (moves : List Move) : State :=
  { s.writeB i w with schedule := moves }

/-- The step between two such states: an idle write of word `j` (20_memory R68). -/
theorem step_withBigWord {i : Reg} {j : Nat} (hj : j < 16) (hb : s.busy = false) (w : Big) (data : Word)
    (moves : List Move) :
    step (withBigWord s i w (writeAt (0x0400 + 64 * i.val + 4 * j) data :: moves)) =
      .next (withBigWord s i (replaceWord w j data) moves) := by
  have hturn : HostTurn (withBigWord s i w (writeAt (0x0400 + 64 * i.val + 4 * j) data :: moves)) _ moves := rfl
  have hwrite := busWrite_bigWord (s := withBigWord s i w moves) (target_bigWord _ i hj) hb data
  refine (step_of_hostTurn hturn).trans (congrArg _ (hwrite.trans ?_))
  simp [withBigWord, State.writeB, State.readB]

/-- A register with word `j` taken from `v`, bit by bit (20_memory R68). -/
theorem getLsbD_replaceWord_extract (w v : Big) {j : Nat} (hj : j < 16) (n : Nat) :
    (replaceWord w j (v.extractLsb' (32 * j) 32)).getLsbD n = if n / 32 = j then v.getLsbD n else w.getLsbD n := by
  rw [getLsbD_replaceWord _ hj]
  by_cases hn : n / 32 = j
  · have hbit : 32 * j + (n - 32 * j) = n := by omega
    have hlane : n - 32 * j < 32 := by omega
    rw [if_pos hn, if_pos (by omega)]
    simp [hbit, hlane]
  · rw [if_neg hn, if_neg (by omega)]

/-- Writes of words of `v`, in any order, change exactly those words of the register (20_memory R68). -/
theorem run_bigWordWrites (i : Reg) (v : Big) (rest : List Move) (hb : s.busy = false) (js : List Nat)
    (hjs : ∀ j ∈ js, j < 16) (w : Big) :
    ∃ u, Host.Core.run Sys2Proof.core js.length (withBigWord s i w (bigWordWrites i v js ++ rest)) =
        .next (withBigWord s i u rest) ∧
      ∀ n, u.getLsbD n = if n / 32 ∈ js then v.getLsbD n else w.getLsbD n := by
  induction js generalizing w with
  | nil => exact ⟨w, rfl, fun n => by simp⟩
  | cons j js ih =>
    obtain ⟨hj, hjs⟩ := List.forall_mem_cons.1 hjs
    obtain ⟨u, hrun, hbits⟩ := ih hjs (replaceWord w j (v.extractLsb' (32 * j) 32))
    have hstep := step_withBigWord (i := i) hj hb w (v.extractLsb' (32 * j) 32) (bigWordWrites i v js ++ rest)
    refine ⟨u, (run_succ_of_step _ hstep).trans hrun, fun n => ?_⟩
    rw [hbits, getLsbD_replaceWord_extract w v hj]
    by_cases hn : n / 32 = j <;> simp [hn]

/-- Settles O58: the run starts with the register's own value, and every bit lies in one of the sixteen words. -/
theorem hostWriteBStoresValue : Obligations.HostWriteBStoresValue := by
  intro s i v rest hb hs
  have hstart : withBigWord s i (s.readB i) (bigWordWrites i v (List.range 16) ++ rest) = s := by
    rw [withBigWord, State.writeB_readB, ← hostWriteB_eq_bigWordWrites, ← hs]
  obtain ⟨u, hrun, hbits⟩ := run_bigWordWrites i v rest hb (List.range 16) (fun _ => List.mem_range.1) (s.readB i)
  have hu : u = v := by
    refine BitVec.eq_of_getLsbD_eq fun n hn => ?_
    rw [hbits, if_pos (List.mem_range.2 (by omega))]
  rw [hstart, hu] at hrun
  exact hrun

end Sys2Proof.Machine
end

section
/-! The constant ROM (20_memory R62). -/

namespace Sys2Proof.Machine

theorem romValue_lt (c : ConstName) : romValue c < 2 ^ 256 := by cases c <;> decide

/-- An index outside the ten of R62 names no constant. -/
theorem ofIndex_eq_none {n : Nat} (hn : n ∉ [0x00, 0x01, 0x02, 0x03, 0x04, 0x10, 0x11, 0x12, 0x13, 0x14]) :
    ConstName.ofIndex n = none := by
  simp only [List.mem_cons, not_or] at hn
  simp [ConstName.ofIndex, hn]

/-- Settles O19: beside the bound and the other indices, equations between the ten constants and numerals. -/
theorem romHoldsCurveConstants : Obligations.RomHoldsCurveConstants := by
  refine ⟨romValue_lt, fun _ => ofIndex_eq_none, ?_⟩
  decide

end Sys2Proof.Machine
end

section
/-! SUPPORT. The command word as six fields: what each field of a packed word holds, that a word is its fields, and
which fields a must-be-zero slice covers (30_encoding R91, R92). -/

namespace Sys2Proof

variable {w : Word}

@[simp] theorem val_fieldRd (w : Word) : (fieldRd w).val = bits w 23 20 := Nat.mod_eq_of_lt (Nat.mod_lt _ (by decide))
@[simp] theorem val_fieldRa (w : Word) : (fieldRa w).val = bits w 19 16 := Nat.mod_eq_of_lt (Nat.mod_lt _ (by decide))
@[simp] theorem val_fieldRb (w : Word) : (fieldRb w).val = bits w 15 12 := Nat.mod_eq_of_lt (Nat.mod_lt _ (by decide))
@[simp] theorem val_fieldRm (w : Word) : (fieldRm w).val = bits w 11 8 := Nat.mod_eq_of_lt (Nat.mod_lt _ (by decide))

/-- A word is packed from its own fields (30_encoding R91). -/
theorem packWord_of_fields {op fn : Nat} {rd ra rb rm : Reg} (hop : fieldOp w = op) (hrd : fieldRd w = rd)
    (hra : fieldRa w = ra) (hrb : fieldRb w = rb) (hrm : fieldRm w = rm) (hfn : fieldFn w = fn) :
    packWord op rd ra rb rm fn = w := by
  subst hop hrd hra hrb hrm hfn
  refine BitVec.eq_of_toNat_eq ?_
  have hw := w.isLt
  simp only [packWord, BitVec.toNat_ofNat, val_fieldRd, val_fieldRa, val_fieldRb, val_fieldRm, fieldOp, fieldFn, bits]
  omega

section
variable (op : Nat) (rd ra rb rm : Reg) {fn : Nat} (hfn : fn < 256)
include hfn

theorem toNat_packWord : (packWord op rd ra rb rm fn).toNat =
    op % 256 * 2 ^ 24 + rd.val * 2 ^ 20 + ra.val * 2 ^ 16 + rb.val * 2 ^ 12 + rm.val * 2 ^ 8 + fn := by
  have hrd := rd.isLt
  have hra := ra.isLt
  have hrb := rb.isLt
  have hrm := rm.isLt
  rw [packWord, BitVec.toNat_ofNat]
  omega

@[simp] theorem fieldRd_packWord : fieldRd (packWord op rd ra rb rm fn) = rd := by
  rw [Fin.ext_iff, val_fieldRd, bits, toNat_packWord op rd ra rb rm hfn]
  omega

@[simp] theorem fieldRa_packWord : fieldRa (packWord op rd ra rb rm fn) = ra := by
  rw [Fin.ext_iff, val_fieldRa, bits, toNat_packWord op rd ra rb rm hfn]
  omega

@[simp] theorem fieldRb_packWord : fieldRb (packWord op rd ra rb rm fn) = rb := by
  rw [Fin.ext_iff, val_fieldRb, bits, toNat_packWord op rd ra rb rm hfn]
  omega

@[simp] theorem fieldRm_packWord : fieldRm (packWord op rd ra rb rm fn) = rm := by
  rw [Fin.ext_iff, val_fieldRm, bits, toNat_packWord op rd ra rb rm hfn]
  omega

@[simp] theorem fieldFn_packWord : fieldFn (packWord op rd ra rb rm fn) = fn := by
  rw [fieldFn, bits, toNat_packWord op rd ra rb rm hfn]
  omega

end

/-! The slices of R92 and R94 that are not fields. -/

theorem bits_23_0_eq_zero : bits w 23 0 = 0 ↔
    fieldRd w = 0 ∧ fieldRa w = 0 ∧ fieldRb w = 0 ∧ fieldRm w = 0 ∧ fieldFn w = 0 := by
  simp only [Fin.ext_iff, val_fieldRd, val_fieldRa, val_fieldRb, val_fieldRm, fieldFn, bits, Fin.val_zero]
  omega

theorem bits_23_2_eq_zero : bits w 23 2 = 0 ↔
    fieldRd w = 0 ∧ fieldRa w = 0 ∧ fieldRb w = 0 ∧ fieldRm w = 0 ∧ fieldFn w < 4 := by
  simp only [Fin.ext_iff, val_fieldRd, val_fieldRa, val_fieldRb, val_fieldRm, fieldFn, bits, Fin.val_zero]
  omega

theorem bits_19_8_eq_zero : bits w 19 8 = 0 ↔ fieldRa w = 0 ∧ fieldRb w = 0 ∧ fieldRm w = 0 := by
  simp only [Fin.ext_iff, val_fieldRa, val_fieldRb, val_fieldRm, bits, Fin.val_zero]
  omega

theorem bits_15_12_eq_zero : bits w 15 12 = 0 ↔ fieldRb w = 0 := by
  rw [Fin.ext_iff, val_fieldRb, Fin.val_zero]

theorem bits_15_0_eq_zero : bits w 15 0 = 0 ↔ fieldRb w = 0 ∧ fieldRm w = 0 ∧ fieldFn w = 0 := by
  simp only [Fin.ext_iff, val_fieldRb, val_fieldRm, fieldFn, bits, Fin.val_zero]
  omega

theorem bits_11_0_eq_zero : bits w 11 0 = 0 ↔ fieldRm w = 0 ∧ fieldFn w = 0 := by
  simp only [Fin.ext_iff, val_fieldRm, fieldFn, bits, Fin.val_zero]
  omega

theorem bits_7_0_eq_fieldFn : bits w 7 0 = fieldFn w := rfl

theorem bits_7_1_eq_zero : bits w 7 1 = 0 ↔ fieldFn w < 2 := by
  simp only [fieldFn, bits]
  omega

theorem bits_1_0_eq_mod : bits w 1 0 = fieldFn w % 4 := by
  simp only [fieldFn, bits]
  omega

theorem bits_0_0_eq_mod : bits w 0 0 = fieldFn w % 2 := by
  simp only [fieldFn, bits]
  omega

/-! The two immediates that are names (30_encoding R94, R101). -/

@[simp] theorem number_lt (v : Variant) : v.number < 4 := by cases v <;> decide

@[simp] theorem index_lt (c : ConstName) : c.index < 256 := by cases c <;> decide

theorem ofNumber_number (v : Variant) : Variant.ofNumber v.number = some v := by cases v <;> rfl

theorem number_of_ofNumber {n : Nat} {v : Variant} (h : Variant.ofNumber n = some v) : v.number = n := by
  unfold Variant.ofNumber at h
  split_ifs at h <;> cases h <;> exact Eq.symm ‹_›

theorem isSome_ofNumber {n : Nat} (hn : n < 4) : (Variant.ofNumber n).isSome = true ↔ n ≠ 3 := by
  interval_cases n <;> decide

theorem ofIndex_index (c : ConstName) : ConstName.ofIndex c.index = some c := by cases c <;> rfl

theorem index_of_ofIndex {n : Nat} {c : ConstName} (h : ConstName.ofIndex n = some c) : c.index = n := by
  unfold ConstName.ofIndex at h
  split_ifs at h <;> cases h <;> exact Eq.symm ‹_›

theorem isSome_ofIndex {n : Nat} : (ConstName.ofIndex n).isSome = true ↔
    n ∈ [0x00, 0x01, 0x02, 0x03, 0x04, 0x10, 0x11, 0x12, 0x13, 0x14] := by
  constructor
  · intro h
    by_contra hn
    simp [Machine.ofIndex_eq_none hn] at h
  · revert n
    decide

end Sys2Proof
end

section
/-! SUPPORT. The decoder by opcode, and what the reader of each format accepts (30_encoding R92, R95, R96). -/

namespace Sys2Proof

variable {w : Word} {i j : Instr}

/-- One command for each row of the opcode map, in the order of R96. -/
def commands : List Instr :=
  [.nop, .ldc 0 .wp, .reduce 0 0 0 false, .invert 0 0 0, .modexp 0 0 0 0, .modadd 0 0 0 0, .modsub 0 0 0 0,
   .modmul 0 0 0 0, .hInit .v20, .hPad, .hCompress, .hFinal, .hDigest .v20, .wAdd 0 0 0, .wDbl 0 0, .wMul 0 0 0,
   .eAdd 0 0 0, .eMul 0 0 0]

/-- What the decoder makes of a word that has the opcode of `i`; the operands of `i` play no part. -/
def Instr.readAs (i : Instr) (w : Word) : Except Reject Instr :=
  match i with
  | .nop => decodeN w .nop
  | .ldc _ _ => decodeC w .ldc
  | .reduce _ _ _ _ => decodeR3S w .reduce
  | .invert _ _ _ => decodeR3 w .invert
  | .modexp _ _ _ _ => decodeR4 w .modexp
  | .modadd _ _ _ _ => decodeR4 w .modadd
  | .modsub _ _ _ _ => decodeR4 w .modsub
  | .modmul _ _ _ _ => decodeR4 w .modmul
  | .hInit _ => decodeV w .hInit
  | .hPad => decodeN w .hPad
  | .hCompress => decodeN w .hCompress
  | .hFinal => decodeN w .hFinal
  | .hDigest _ => decodeV w .hDigest
  | .wAdd _ _ _ => decodeP3 w .wAdd
  | .wDbl _ _ => decodeP2 w .wDbl
  | .wMul _ _ _ => decodeP3 w .wMul
  | .eAdd _ _ _ => decodeP3 w .eAdd
  | .eMul _ _ _ => decodeP3 w .eMul

/-- At the opcode of `i` the decoder is the reader of that row (30_encoding R95). -/
theorem decode_of_opcode (h : fieldOp w = i.opcode) : decode w = i.readAs w := by
  cases i <;> simp only [Instr.opcode] at h <;> simp [decode, Instr.readAs, h]

/-- An opcode of no row is unassigned (30_encoding R99). -/
theorem decode_of_unassigned (h : ∀ i : Instr, fieldOp w ≠ i.opcode) : decode w = .error .unassignedOpcode := by
  have hall : ∀ i ∈ commands, fieldOp w ≠ i.opcode := fun i _ => h i
  simp only [commands, List.forall_mem_cons, Instr.opcode] at hall
  simp [decode, hall]

theorem fieldOp_encode (i : Instr) : fieldOp (encode i) = i.opcode := by
  cases i with
  | nop => exact Laws.OpcodeField.nop
  | ldc rd c => exact Laws.OpcodeField.ldc rd c
  | reduce rd ra rm signed => exact Laws.OpcodeField.reduce rd ra rm signed
  | invert rd ra rm => exact Laws.OpcodeField.invert rd ra rm
  | modexp rd ra rb rm => exact Laws.OpcodeField.modexp rd ra rb rm
  | modadd rd ra rb rm => exact Laws.OpcodeField.modadd rd ra rb rm
  | modsub rd ra rb rm => exact Laws.OpcodeField.modsub rd ra rb rm
  | modmul rd ra rb rm => exact Laws.OpcodeField.modmul rd ra rb rm
  | hInit v => exact Laws.OpcodeField.hInit v
  | hPad => exact Laws.OpcodeField.hPad
  | hCompress => exact Laws.OpcodeField.hCompress
  | hFinal => exact Laws.OpcodeField.hFinal
  | hDigest v => exact Laws.OpcodeField.hDigest v
  | wAdd rd ra rb => exact Laws.OpcodeField.wAdd rd ra rb
  | wDbl rd ra => exact Laws.OpcodeField.wDbl rd ra
  | wMul rd ra rb => exact Laws.OpcodeField.wMul rd ra rb
  | eAdd rd ra rb => exact Laws.OpcodeField.eAdd rd ra rb
  | eMul rd ra rb => exact Laws.OpcodeField.eMul rd ra rb

/-! When each reader accepts, and with what. -/

theorem ite_reserved_eq_ok {P : Prop} [Decidable P] {x : Except Reject Instr} :
    (if P then x else .error .reservedBits) = .ok j ↔ P ∧ x = .ok j := by
  by_cases h : P <;> simp [h]

theorem checkPairs_eq_ok : checkPairs i = .ok j ↔ i.wf = true ∧ i = j := by
  unfold checkPairs
  by_cases h : i.wf = true <;> simp [h]

theorem checkPairs_of_wf (h : i.wf = true) : checkPairs i = .ok i := if_pos h

theorem checkPairs_of_not_wf (h : i.wf = false) : checkPairs i = .error .pairIndex := by simp [checkPairs, h]

theorem decodeN_eq_ok : decodeN w i = .ok j ↔ bits w 23 0 = 0 ∧ i = j := by
  simp [decodeN, ite_reserved_eq_ok]

theorem decodeV_eq_ok {f : Variant → Instr} :
    decodeV w f = .ok j ↔ bits w 23 2 = 0 ∧ ∃ v, Variant.ofNumber (bits w 1 0) = some v ∧ f v = j := by
  refine ite_reserved_eq_ok.trans (and_congr_right fun _ => ?_)
  cases Variant.ofNumber (bits w 1 0) <;> simp

theorem decodeC_eq_ok {f : Reg → ConstName → Instr} :
    decodeC w f = .ok j ↔
      bits w 19 8 = 0 ∧ ∃ c, ConstName.ofIndex (fieldFn w) = some c ∧ f (fieldRd w) c = j := by
  refine ite_reserved_eq_ok.trans (and_congr_right fun _ => ?_)
  cases ConstName.ofIndex (fieldFn w) <;> simp

theorem decodeR3_eq_ok {f : Reg → Reg → Reg → Instr} :
    decodeR3 w f = .ok j ↔ (bits w 15 12 = 0 ∧ bits w 7 0 = 0) ∧ f (fieldRd w) (fieldRa w) (fieldRm w) = j := by
  simp [decodeR3, ite_reserved_eq_ok]

theorem decodeR3S_eq_ok {f : Reg → Reg → Reg → Bool → Instr} :
    decodeR3S w f = .ok j ↔ (bits w 15 12 = 0 ∧ bits w 7 1 = 0) ∧
      f (fieldRd w) (fieldRa w) (fieldRm w) (decide (bits w 0 0 = 1)) = j := by
  simp [decodeR3S, ite_reserved_eq_ok]

theorem decodeR4_eq_ok {f : Reg → Reg → Reg → Reg → Instr} :
    decodeR4 w f = .ok j ↔ bits w 7 0 = 0 ∧ f (fieldRd w) (fieldRa w) (fieldRb w) (fieldRm w) = j := by
  simp [decodeR4, ite_reserved_eq_ok]

theorem decodeP2_eq_ok {f : Reg → Reg → Instr} :
    decodeP2 w f = .ok j ↔
      bits w 15 0 = 0 ∧ (f (fieldRd w) (fieldRa w)).wf = true ∧ f (fieldRd w) (fieldRa w) = j := by
  rw [decodeP2, ite_reserved_eq_ok, checkPairs_eq_ok]

theorem decodeP3_eq_ok {f : Reg → Reg → Reg → Instr} :
    decodeP3 w f = .ok j ↔ bits w 11 0 = 0 ∧ (f (fieldRd w) (fieldRa w) (fieldRb w)).wf = true ∧
      f (fieldRd w) (fieldRa w) (fieldRb w) = j := by
  rw [decodeP3, ite_reserved_eq_ok, checkPairs_eq_ok]

end Sys2Proof
end

section
/-! The two directions of the round trip (30_encoding R91 to R103). -/

namespace Sys2Proof

variable {w : Word} {i j : Instr}

/-- In format R3S `fn` is the bit S (30_encoding R92, R94). -/
theorem fieldFn_eq_toNat (h : bits w 7 1 = 0) : fieldFn w = (decide (bits w 0 0 = 1)).toNat := by
  have hlt := bits_7_1_eq_zero.1 h
  rw [bits_0_0_eq_mod, Nat.mod_eq_of_lt hlt]
  interval_cases fieldFn w <;> rfl

/-- The word of a command decodes to it, but for the pair bound (30_encoding R91, R92, R100). -/
theorem decode_encode (i : Instr) : decode (encode i) = checkPairs i := by
  rw [decode_of_opcode (fieldOp_encode i)]
  cases i with
  | nop | hPad | hCompress | hFinal =>
    simp [Instr.readAs, decodeN, encode, bits_23_0_eq_zero, checkPairs, Instr.wf]
  | hInit v | hDigest v =>
    have hlt : v.number < 256 := (number_lt v).trans (by decide)
    simp [Instr.readAs, decodeV, encode, bits_23_2_eq_zero, bits_1_0_eq_mod, Nat.mod_eq_of_lt, ofNumber_number, hlt,
      checkPairs, Instr.wf]
  | ldc rd c => simp [Instr.readAs, decodeC, encode, bits_19_8_eq_zero, ofIndex_index, checkPairs, Instr.wf]
  | reduce rd ra rm signed =>
    have hs : signed.toNat < 256 := signed.toNat_lt.trans (by decide)
    simp [Instr.readAs, decodeR3S, encode, bits_15_12_eq_zero, bits_7_1_eq_zero, bits_0_0_eq_mod, Nat.mod_eq_of_lt,
      signed.toNat_lt, hs, checkPairs, Instr.wf]
  | invert rd ra rm =>
    simp [Instr.readAs, decodeR3, encode, bits_15_12_eq_zero, bits_7_0_eq_fieldFn, checkPairs, Instr.wf]
  | modexp | modadd | modsub | modmul =>
    simp [Instr.readAs, decodeR4, encode, bits_7_0_eq_fieldFn, checkPairs, Instr.wf]
  | wDbl => simp [Instr.readAs, decodeP2, encode, bits_15_0_eq_zero]
  | wAdd | wMul | eAdd | eMul => simp [Instr.readAs, decodeP3, encode, bits_11_0_eq_zero]

/-- Settles O2: a well-formed command passes the pair bound. -/
theorem decodeOfEncode : Obligations.DecodeOfEncode :=
  fun i hi => (decode_encode i).trans (checkPairs_of_wf hi)

/-- What the reader of a row answers is a well-formed command, and the word is its word (30_encoding R98, R101). -/
theorem encode_of_readAs (hop : fieldOp w = i.opcode) (h : i.readAs w = .ok j) : j.wf = true ∧ encode j = w := by
  cases i with
  | nop | hPad | hCompress | hFinal =>
    obtain ⟨hz, rfl⟩ := decodeN_eq_ok.1 h
    obtain ⟨hrd, hra, hrb, hrm, hfn⟩ := bits_23_0_eq_zero.1 hz
    exact ⟨rfl, packWord_of_fields hop hrd hra hrb hrm hfn⟩
  | hInit | hDigest =>
    obtain ⟨hz, v, hv, rfl⟩ := decodeV_eq_ok.1 h
    obtain ⟨hrd, hra, hrb, hrm, hfn⟩ := bits_23_2_eq_zero.1 hz
    rw [bits_1_0_eq_mod, Nat.mod_eq_of_lt hfn] at hv
    exact ⟨rfl, packWord_of_fields hop hrd hra hrb hrm (number_of_ofNumber hv).symm⟩
  | ldc =>
    obtain ⟨hz, c, hc, rfl⟩ := decodeC_eq_ok.1 h
    obtain ⟨hra, hrb, hrm⟩ := bits_19_8_eq_zero.1 hz
    exact ⟨rfl, packWord_of_fields hop rfl hra hrb hrm (index_of_ofIndex hc).symm⟩
  | reduce =>
    obtain ⟨⟨hrb, hfn⟩, rfl⟩ := decodeR3S_eq_ok.1 h
    exact ⟨rfl, packWord_of_fields hop rfl rfl (bits_15_12_eq_zero.1 hrb) rfl (fieldFn_eq_toNat hfn)⟩
  | invert =>
    obtain ⟨⟨hrb, hfn⟩, rfl⟩ := decodeR3_eq_ok.1 h
    exact ⟨rfl, packWord_of_fields hop rfl rfl (bits_15_12_eq_zero.1 hrb) rfl hfn⟩
  | modexp | modadd | modsub | modmul =>
    obtain ⟨hfn, rfl⟩ := decodeR4_eq_ok.1 h
    exact ⟨rfl, packWord_of_fields hop rfl rfl rfl rfl hfn⟩
  | wDbl =>
    obtain ⟨hz, hwf, rfl⟩ := decodeP2_eq_ok.1 h
    obtain ⟨hrb, hrm, hfn⟩ := bits_15_0_eq_zero.1 hz
    exact ⟨hwf, packWord_of_fields hop rfl rfl hrb hrm hfn⟩
  | wAdd | wMul | eAdd | eMul =>
    obtain ⟨hz, hwf, rfl⟩ := decodeP3_eq_ok.1 h
    obtain ⟨hrm, hfn⟩ := bits_11_0_eq_zero.1 hz
    exact ⟨hwf, packWord_of_fields hop rfl rfl rfl hrm hfn⟩

/-- Settles O3: a word that decodes has the opcode of a row, and the reader of that row ignores no bit. -/
theorem encodeOfDecode : Obligations.EncodeOfDecode := by
  intro w i h
  by_cases hop : ∃ j : Instr, fieldOp w = j.opcode
  · obtain ⟨j, hop⟩ := hop
    exact encode_of_readAs hop (decode_of_opcode hop ▸ h)
  · rw [decode_of_unassigned (not_exists.1 hop)] at h
    cases h

end Sys2Proof
end

section
/-! SUPPORT. A mask of R96 compares slices of the word. -/

namespace Sys2Proof

/-- The mask whose set bits are those of the slices `[hi:lo]`. -/
def sliceMask (slices : List (Nat × Nat)) : Word :=
  BitVec.ofFnLE fun k : Fin 32 => slices.any fun x => decide (x.2 ≤ k.val ∧ k.val ≤ x.1)

theorem testBit_bits (w : Word) (hi lo k : Nat) :
    (bits w hi lo).testBit k = (decide (k < hi + 1 - lo) && w.getLsbD (lo + k)) := by
  simp [bits, Nat.testBit_mod_two_pow, Nat.testBit_div_two_pow, BitVec.getLsbD, Nat.add_comm]

theorem bits_eq_bits_iff {w p : Word} {hi lo : Nat} :
    bits w hi lo = bits p hi lo ↔ ∀ k, lo ≤ k → k ≤ hi → w.getLsbD k = p.getLsbD k := by
  constructor
  · intro h k hlo hhi
    have hk := congrArg (Nat.testBit · (k - lo)) h
    simpa [testBit_bits, Nat.add_sub_cancel' hlo, show k - lo < hi + 1 - lo by omega] using hk
  · intro h
    refine Nat.eq_of_testBit_eq fun k => ?_
    rw [testBit_bits, testBit_bits]
    by_cases hk : k < hi + 1 - lo
    · rw [h (lo + k) (by omega) (by omega)]
    · simp [hk]

/-- A word meets `w AND mask = match` exactly when it has the slices of `match` (30_encoding R96). -/
theorem and_sliceMask_eq_iff {w p : Word} {slices : List (Nat × Nat)} (hp : p &&& sliceMask slices = p) :
    w &&& sliceMask slices = p ↔ ∀ x ∈ slices, bits w x.1 x.2 = bits p x.1 x.2 := by
  have hmask (k : Nat) (hk : k < 32) :
      (sliceMask slices).getLsbD k = true ↔ ∃ x ∈ slices, x.2 ≤ k ∧ k ≤ x.1 := by
    simp [sliceMask, hk]
  simp only [bits_eq_bits_iff]
  constructor
  · rintro h x hx k hlo hhi
    by_cases hk : k < 32
    · rw [← h, BitVec.getLsbD_and, (hmask k hk).2 ⟨x, hx, hlo, hhi⟩, Bool.and_true]
    · rw [BitVec.getLsbD_of_ge _ _ (by omega), BitVec.getLsbD_of_ge _ _ (by omega)]
  · intro h
    rw [← hp]
    refine BitVec.eq_of_getLsbD_eq fun k hk => ?_
    rw [BitVec.getLsbD_and, BitVec.getLsbD_and]
    by_cases hm : (sliceMask slices).getLsbD k = true
    · obtain ⟨x, hx, hlo, hhi⟩ := (hmask k hk).1 hm
      rw [h x hx k hlo hhi]
    · simp [hm]

end Sys2Proof
end

section
/-! The rows of the opcode map, from the opcode and the format of each command (30_encoding R92, R96). -/

namespace Sys2Proof

variable {w : Word} {i j : Instr}

/-- The must-be-zero slices of a command's format (30_encoding R92, R98). -/
def Instr.reserved : Instr → List (Nat × Nat)
  | .nop | .hPad | .hCompress | .hFinal => [(23, 0)]
  | .hInit _ | .hDigest _ => [(23, 2)]
  | .ldc _ _ => [(19, 8)]
  | .reduce _ _ _ _ => [(15, 12), (7, 1)]
  | .invert _ _ _ => [(15, 12), (7, 0)]
  | .modexp _ _ _ _ | .modadd _ _ _ _ | .modsub _ _ _ _ | .modmul _ _ _ _ => [(7, 0)]
  | .wDbl _ _ => [(15, 0)]
  | .wAdd _ _ _ | .wMul _ _ _ | .eAdd _ _ _ | .eMul _ _ _ => [(11, 0)]

/-- The bound of R100 or R101 on the fields of a command. -/
def Instr.also : Instr → Also
  | .ldc _ _ => .constantIndex
  | .hInit _ | .hDigest _ => .variantNumber
  | .wAdd _ _ _ | .eAdd _ _ _ => .pairsRdRaRb
  | .wDbl _ _ | .wMul _ _ _ | .eMul _ _ _ => .pairsRdRa
  | _ => .nothing

/-- The row of a command. -/
def Instr.row (i : Instr) : OpcodeRow :=
  ⟨i.mnemonic, packWord i.opcode 0 0 0 0 0, sliceMask ((31, 24) :: i.reserved), i.also⟩

/-- The opcode map lists the rows of the commands, with the masks and matches R96 prints. -/
theorem opcodeMap_eq_map_row : opcodeMap = commands.map Instr.row := by decide +kernel

theorem row_mem_opcodeMap (i : Instr) : i.row ∈ opcodeMap := by
  rw [opcodeMap_eq_map_row]
  cases i <;> simp [commands, Instr.row, Instr.mnemonic, Instr.opcode, Instr.reserved, Instr.also]

/-- No two rows share a mnemonic or an opcode. -/
theorem rows_mnemonic_eq_iff : ∀ r ∈ opcodeMap, ∀ r' ∈ opcodeMap,
    r.mnemonic = r'.mnemonic ↔ fieldOp r.pattern = fieldOp r'.pattern := by decide

theorem Instr.opcode_lt (i : Instr) : i.opcode < 256 := by cases i <;> simp [Instr.opcode]

theorem fieldOp_row_pattern (i : Instr) : fieldOp i.row.pattern = i.opcode :=
  Laws.OpcodeField.fieldOp_packWord _ _ _ _ _ _ i.opcode_lt (by decide)

theorem mnemonic_eq_iff_opcode_eq : i.mnemonic = j.mnemonic ↔ i.opcode = j.opcode := by
  have hrows := rows_mnemonic_eq_iff _ (row_mem_opcodeMap i) _ (row_mem_opcodeMap j)
  rwa [fieldOp_row_pattern, fieldOp_row_pattern] at hrows

/-- The match of a row lies under its mask, and its must-be-zero slices are zero. -/
theorem pattern_slices : ∀ i ∈ commands, i.row.pattern &&& i.row.mask = i.row.pattern ∧
    ∀ x ∈ i.reserved, bits i.row.pattern x.1 x.2 = 0 := by decide +kernel

/-- The reader of a row accepts exactly the words whose must-be-zero slices are zero and that meet the bound. -/
theorem exists_readAs_eq_ok (i : Instr) :
    (∃ j, i.readAs w = .ok j) ↔ (∀ x ∈ i.reserved, bits w x.1 x.2 = 0) ∧ i.also.holds w = true := by
  cases i with
  | nop | hPad | hCompress | hFinal => simp [Instr.readAs, decodeN_eq_ok, Instr.reserved, Instr.also, Also.holds]
  | hInit | hDigest =>
    have hnumber : (Variant.ofNumber (bits w 1 0)).isSome = true ↔ bits w 1 0 ≠ 3 :=
      isSome_ofNumber (Nat.mod_lt _ (by decide))
    simp [Instr.readAs, decodeV_eq_ok, Instr.reserved, Instr.also, Also.holds, ← Option.isSome_iff_exists, hnumber]
  | ldc =>
    simp [Instr.readAs, decodeC_eq_ok, Instr.reserved, Instr.also, Also.holds, ← Option.isSome_iff_exists,
      isSome_ofIndex]
  | reduce => simp [Instr.readAs, decodeR3S_eq_ok, Instr.reserved, Instr.also, Also.holds]
  | invert => simp [Instr.readAs, decodeR3_eq_ok, Instr.reserved, Instr.also, Also.holds]
  | modexp | modadd | modsub | modmul => simp [Instr.readAs, decodeR4_eq_ok, Instr.reserved, Instr.also, Also.holds]
  | wDbl => simp [Instr.readAs, decodeP2_eq_ok, Instr.reserved, Instr.also, Also.holds, Instr.wf, Reg.isPair]
  | wAdd | wMul | eAdd | eMul =>
    simp [Instr.readAs, decodeP3_eq_ok, Instr.reserved, Instr.also, Also.holds, Instr.wf, Reg.isPair, and_assoc]

/-- The row of a command accepts exactly the words that have its opcode and decode (30_encoding R95, R96). -/
theorem row_accepts_iff (hi : i ∈ commands) :
    i.row.accepts w = true ↔ fieldOp w = i.opcode ∧ ∃ j, decode w = .ok j := by
  obtain ⟨hunder, hzero⟩ := pattern_slices i hi
  have hmask : w &&& i.row.mask = i.row.pattern ↔
      fieldOp w = i.opcode ∧ ∀ x ∈ i.reserved, bits w x.1 x.2 = 0 := by
    refine (and_sliceMask_eq_iff hunder).trans (List.forall_mem_cons.trans (and_congr ?_ ?_))
    · exact fieldOp_row_pattern i ▸ Iff.rfl
    · exact forall₂_congr fun x hx => by rw [hzero x hx]
  rw [OpcodeRow.accepts, Bool.and_eq_true, decide_eq_true_iff, hmask, and_assoc]
  refine and_congr_right fun hop => ?_
  rw [decode_of_opcode hop]
  exact (exists_readAs_eq_ok i).symm

/-- A decoded word has the opcode of its command. -/
theorem opcode_of_decode (h : decode w = .ok i) : fieldOp w = i.opcode := by
  obtain ⟨-, rfl⟩ := encodeOfDecode w i h
  exact fieldOp_encode i

theorem row_accepts_iff_mnemonic (hi : i ∈ commands) :
    i.row.accepts w = true ↔ ∃ j, decode w = .ok j ∧ j.mnemonic = i.mnemonic := by
  rw [row_accepts_iff hi, ← exists_and_left]
  refine exists_congr fun j => ?_
  rw [and_comm]
  refine and_congr_right fun hj => ?_
  rw [opcode_of_decode hj, mnemonic_eq_iff_opcode_eq]

/-- Settles O4: the map lists the rows of the commands, and a word that decodes is accepted by the row of its
command. -/
theorem decoderIsOpcodeMap : Obligations.DecoderIsOpcodeMap := by
  have hrows : ∀ r ∈ opcodeMap, ∀ w : Word,
      r.accepts w = true ↔ ∃ i, decode w = .ok i ∧ i.mnemonic = r.mnemonic := by
    rw [opcodeMap_eq_map_row, List.forall_mem_map]
    exact fun i hi w => row_accepts_iff_mnemonic hi
  refine ⟨hrows, fun w hw => ?_⟩
  cases hd : decode w with
  | error e => exact ⟨e, rfl⟩
  | ok i =>
    have haccepts := (hrows _ (row_mem_opcodeMap i) w).2 ⟨i, hd, rfl⟩
    rw [hw _ (row_mem_opcodeMap i)] at haccepts
    cases haccepts

end Sys2Proof
end

section
/-! The worked words, the pair bound, and the step that raises E_ILLEGAL (30_encoding R95, R99, R100, R105). -/

namespace Sys2Proof.Machine

variable {s : State} {i : Instr}

/-- Settles O1: eighteen closed evaluations of the decoder. -/
theorem workedEncodingsDecode : Obligations.WorkedEncodingsDecode := by
  unfold Obligations.WorkedEncodingsDecode
  decide +kernel

/-- A pair command with index 15 raises E_ILLEGAL before any other check (30_encoding R100). -/
theorem exec_of_not_wf (hi : i.wf = false) (s : State) : exec i s = fail .illegal s := by
  cases i with
  | wAdd rd ra rb => simpa [exec, hi] using execWAdd_cases rd ra rb s
  | wDbl rd ra => simpa [exec, hi] using execWDbl_cases rd ra s
  | wMul rd ra rb => simpa [exec, hi] using execWMul_cases rd ra rb s
  | eAdd rd ra rb => simpa [exec, hi] using execEAdd_cases rd ra rb s
  | eMul rd ra rb => simpa [exec, hi] using execEMul_cases rd ra rb s
  | nop | ldc | reduce | invert | modexp | modadd | modsub | modmul | hInit | hPad | hCompress | hFinal | hDigest =>
    cases hi

/-- Settles O14: the word of the term has no fault but its pair index. -/
theorem pairIndexFifteenIllegal : Obligations.PairIndexFifteenIllegal :=
  fun i hi => ⟨exec_of_not_wf hi, (decode_encode i).trans (checkPairs_of_not_wf hi)⟩

/-- On the engine's turn a step is the completion step of the command in CMD (40_control R119). -/
theorem step_of_engineTurn {rest : List Move} (h : s.EngineTurn rest) :
    step s = runCommand { s with schedule := rest } := by
  obtain ⟨hb, hs | ⟨hs, rfl⟩⟩ := h
  · simp [step, hs, makeMove, engineMove, hb]
  · have hsame : { s with schedule := [] } = s := by rw [← hs]
    rw [hsame]
    simp [step, hs, engineMove, hb]

/-- Settles O6: the step is the completion step, and that of an illegal word is the error record. -/
theorem illegalWordRaises : Obligations.IllegalWordRaises := by
  intro s rest e hturn hd
  rw [step_of_engineTurn hturn, runCommand, State.commandWord, hd]
  rfl

end Sys2Proof.Machine
end

section
/-! The control commands: the completion step of a word that decodes, NOP and LDC (40_control R119 to R121). -/

namespace Sys2Proof.Machine

open Sys2Proof.Claims

variable {s : State} {i : Instr} {w : Word}

/-- The completion step of a word that decodes is the command (40_control R119). -/
theorem runCommand_of_decode (h : decode s.cmd = .ok i) : runCommand s = exec i s := by
  rw [runCommand, State.commandWord, h]

/-- Settles O5: the engine's turn is the completion step, which reads CMD and not the schedule. -/
theorem stepRunsDecodedCommand : Obligations.StepRunsDecodedCommand :=
  fun _ _ _ hturn hd => (step_of_engineTurn hturn).trans (runCommand_of_decode hd)

/-- A word of opcode 0 with any other bit set is no command: the word of NOP has none (40_control R120). -/
theorem decode_nop_opcode_of_ne_zero (hop : fieldOp w = 0x00) (hw : w ≠ 0) : decode w = .error .reservedBits := by
  have hread : decode w = decodeN w .nop := decode_of_opcode (i := .nop) hop
  have hz : bits w 23 0 ≠ 0 := by
    intro hz
    have henc : encode .nop = w := (encodeOfDecode w .nop (hread.trans (if_pos hz))).2
    exact hw (henc.symm.trans (by decide))
  exact hread.trans (if_neg hz)

/-- Settles O17: NOP only completes, and its word is the one word of its opcode. -/
theorem nopSetsDoneOnly : Obligations.NopSetsDoneOnly :=
  ⟨fun _ => rfl, by decide, fun _ => decode_nop_opcode_of_ne_zero⟩

/-- A word that decodes to no command is rejected (30_encoding R95). -/
theorem decode_rejects (h : ∀ i, decode w ≠ .ok i) : ∃ e, decode w = .error e := by
  cases hd : decode w with
  | error e => exact ⟨e, rfl⟩
  | ok i => exact absurd hd (h i)

/-- One big register written, and Z where the command sets it, then completion (40_control R119). -/
theorem registerWritten_writeB {rd : Reg} {v : Nat} (hv : v < 2 ^ 512) (s : State) (z : Bool) :
    RegisterWritten rd v s { s.writeB rd (BitVec.ofNat 512 v) with z := z }.complete := by
  refine ⟨?_, fun k hk => s.readB_writeB_other _ hk, fun _ => rfl, rfl⟩
  calc (s.writeB rd (BitVec.ofNat 512 v)).unsignedB rd
      = (BitVec.ofNat 512 v).toNat := by rw [State.unsignedB, State.readB_writeB_same]
    _ = v := by simp only [BitVec.toNat_ofNat, Nat.mod_eq_of_lt hv]

/-- LDC writes the constant, which fits, and leaves Z (40_control R121). -/
theorem exec_ldc (rd : Reg) (c : ConstName) (s : State) :
    ∃ t, exec (.ldc rd c) s = .next t ∧ RegisterWritten rd (romValue c) s t ∧ t.z = s.z :=
  have hfits : romValue c < 2 ^ 512 := by
    have hbound := romValue_lt c
    omega
  ⟨_, execLdc_next.2 rfl, registerWritten_writeB hfits s s.z, rfl⟩

/-- A word of the opcode of LDC is read in format C, so an unused field or an index of no constant makes it illegal
(30_encoding R92, R101). -/
theorem decode_ldc_opcode_rejects (hop : fieldOp w = 0x01)
    (h : bits w 19 8 ≠ 0 ∨ fieldFn w ∉ [0x00, 0x01, 0x02, 0x03, 0x04, 0x10, 0x11, 0x12, 0x13, 0x14]) :
    ∃ e, decode w = .error e := by
  refine decode_rejects fun i hi => ?_
  rw [decode_of_opcode (i := .ldc 0 .wp) hop] at hi
  obtain ⟨hz, c, hc, -⟩ := decodeC_eq_ok.1 hi
  obtain hnz | hindex := h
  · exact hnz hz
  · simp [ofIndex_eq_none hindex] at hc

/-- Settles O18: the write of the constant, the words of the opcode, and the printed example. -/
theorem ldcLoadsConstant : Obligations.LdcLoadsConstant :=
  ⟨fun rd c s => ⟨romValue_lt c, exec_ldc rd c s⟩, fun _ => decode_ldc_opcode_rejects, by decide, by decide⟩

end Sys2Proof.Machine
end

section
/-! SUPPORT. The integer functions of the MAU are the true residue, the power and the Fermat power (41_modarith R131 to
R133). -/

namespace Sys2Proof.Machine

theorem reduce_lt {m : Nat} (a : Int) (hm : m ≠ 0) : reduce a m < m := by
  have hnonneg : 0 ≤ a % (m : Int) := Int.emod_nonneg a (by omega)
  have hlt : a % (m : Int) < m := Int.emod_lt_of_pos a (by omega)
  unfold reduce
  omega

theorem dvd_sub_reduce {m : Nat} (a : Int) (hm : m ≠ 0) : (m : Int) ∣ a - reduce a m := by
  rw [reduce, Int.toNat_of_nonneg (Int.emod_nonneg a (by omega))]
  exact Int.dvd_self_sub_emod

/-- For an integer that is not negative the true modulo is that of the natural numbers (41_modarith R131). -/
theorem reduce_natCast (a m : Nat) : reduce a m = a % m := by
  rw [reduce, ← Int.natCast_emod, Int.toNat_natCast]

/-- One bit of square and multiply: the last bit of the exponent goes into the accumulator, the others to the squared
base. -/
theorem mul_pow_step (acc base e : Nat) :
    (if e % 2 = 1 then acc * base else acc) * (base * base) ^ (e / 2) = acc * base ^ e := by
  have hsquare : (base * base) ^ (e / 2) = base ^ (2 * (e / 2)) := by rw [pow_mul, sq]
  have hbits : 2 * (e / 2) + e % 2 = e := Nat.div_add_mod e 2
  obtain hbit | hbit := Nat.mod_two_eq_zero_or_one e
  · rw [if_neg (by omega), hsquare, show 2 * (e / 2) = e by omega]
  · rw [if_pos hbit, hsquare, mul_assoc, ← pow_succ', show 2 * (e / 2) + 1 = e by omega]

/-- The loop computes `acc * base^e`, when its fuel covers the bits of `e`: each round keeps that value modulo `m`
(41_modarith R133). -/
theorem powLoop_eq {m fuel base e acc : Nat} (he : e < 2 ^ fuel) : powLoop m fuel base e acc = acc * base ^ e % m := by
  induction fuel generalizing base e acc with
  | zero =>
    obtain rfl : e = 0 := by omega
    simp [powLoop]
  | succ fuel ih =>
    by_cases hz : e = 0
    · simp [powLoop, hz]
    · have hacc : (if e % 2 = 1 then acc * base % m else acc) ≡ if e % 2 = 1 then acc * base else acc [MOD m] := by
        split
        · exact Nat.mod_modEq _ _
        · rfl
      have hpow : (base * base % m) ^ (e / 2) ≡ (base * base) ^ (e / 2) [MOD m] := (Nat.mod_modEq _ _).pow _
      rw [powLoop, if_neg hz, ih (by omega), ← mul_pow_step acc base e]
      exact hacc.mul hpow

/-- `modexp` is the power (41_modarith R133). -/
theorem modexp_eq (b e m : Nat) : modexp b e m = b ^ e % m := by
  rw [modexp, powLoop_eq Nat.lt_log2_self, one_mul]

/-- `invert` is the Fermat power, for every modulus (41_modarith R132). -/
theorem invert_eq (a m : Nat) : invert a m = a ^ (m - 2) % m := modexp_eq a (m - 2) m

/-- The Fermat power depends on the residue of its argument only (41_modarith R132). -/
theorem invert_mod (a m : Nat) : invert a m = invert (a % m) m := by
  rw [invert_eq, invert_eq, Nat.pow_mod]

/-- Inside CP's precondition the Fermat power is the inverse, by Fermat's little theorem (41_modarith R132). -/
theorem mul_invert_mod {a m : Nat} (hm : m.Prime) (ha : a % m ≠ 0) : a * invert a m % m = 1 := by
  have hcop : a.Coprime m := ((Nat.Prime.coprime_iff_not_dvd hm).2 fun hd => ha (Nat.mod_eq_zero_of_dvd hd)).symm
  have htwo := hm.two_le
  calc a * invert a m % m
      = a ^ (m - 1) % m := by
        rw [invert_eq, Nat.mul_mod_mod, ← pow_succ', show m - 2 + 1 = m - 1 by omega]
    _ = 1 % m := by
        rw [← Nat.totient_prime hm]
        exact Nat.ModEq.pow_totient hcop
    _ = 1 := Nat.mod_eq_of_lt hm.one_lt

/-- A multiple of the modulus has the Fermat power 0, if the exponent is not 0 (41_modarith R141). -/
theorem invert_of_mod_eq_zero {a m : Nat} (hm : 2 < m) (ha : a % m = 0) : invert a m = 0 := by
  rw [invert_mod, ha, invert_eq, zero_pow (by omega), Nat.zero_mod]

/-- Modulo 2 the exponent is 0, so the Fermat power is 1 for every argument (41_modarith R141). -/
theorem invert_two (a : Nat) : invert a 2 = 1 := by simp [invert_eq]

end Sys2Proof.Machine
end

section
/-! The commands of the MAU: E_MODULUS, or one residue written with its flag (41_modarith R134 to R141). -/

namespace Sys2Proof.Machine

open Sys2Proof.Claims

variable {s : State} {i : Instr} {w : Word}

/-- A command that fails leaves the error record (60_exceptions R281). -/
theorem errorRecord_of_fail {e : ErrorCode} (h : exec i s = fail e s) :
    ∃ t, exec i s = .next t ∧ ErrorRecord e s t :=
  ⟨s.raise e, h, rfl⟩

/-- A residue below the content of a register fits in a register, so the end of a MAU command writes it as it is
(10_state R25, 40_control R119). -/
theorem registerWritten_of_finishResidue {rd rm : Reg} {r : Nat} (hr : r < s.unsignedB rm)
    (h : exec i s = finishResidue rd r s) :
    ∃ t, exec i s = .next t ∧ RegisterWritten rd r s t ∧ t.z = decide (r = 0) :=
  have hfits : r < 2 ^ 512 := by
    have hreg := (s.readB rm).isLt
    rw [State.unsignedB] at hr
    omega
  ⟨_, h, registerWritten_writeB hfits s (decide (r = 0)), rfl⟩

/-- A command that ends with the residue of the integer `a` writes the one `r` below the modulus with `a - r` a multiple
of it (41_modarith R131). -/
theorem residueWritten_of_finishReduce {rd rm : Reg} {a : Int} (hm : s.unsignedB rm ≠ 0)
    (h : exec i s = finishResidue rd (reduce a (s.unsignedB rm)) s) :
    ∃ (r : Nat) (t : State), r < s.unsignedB rm ∧ (s.unsignedB rm : Int) ∣ a - r ∧
      exec i s = .next t ∧ RegisterWritten rd r s t ∧ t.z = decide (r = 0) :=
  have hlt := reduce_lt a hm
  have ⟨t, ht⟩ := registerWritten_of_finishResidue hlt h
  ⟨_, t, hlt, dvd_sub_reduce a hm, ht⟩

/-- A command that ends with the residue of a natural number writes its modulo (41_modarith R131). -/
theorem modWritten_of_finishReduce {rd rm : Reg} {a : Nat} (hm : s.unsignedB rm ≠ 0)
    (h : exec i s = finishResidue rd (reduce a (s.unsignedB rm)) s) :
    ∃ t, exec i s = .next t ∧ RegisterWritten rd (a % s.unsignedB rm) s t ∧
      t.z = decide (a % s.unsignedB rm = 0) := by
  rw [reduce_natCast] at h
  exact registerWritten_of_finishResidue (Nat.mod_lt a (by omega)) h

/-- What REDUCE reads, with the two's complement written out (00_scope R12, 41_modarith R134). -/
theorem reduceSource_eq (s : State) (ra : Reg) (signed : Bool) :
    reduceSource s ra signed =
      if signed = true ∧ 2 ^ 511 ≤ (s.readB ra).toNat then ((s.readB ra).toNat : Int) - 2 ^ 512
      else ((s.readB ra).toNat : Int) := by
  cases signed with
  | false => exact (if_neg fun h => Bool.false_ne_true h.1).symm
  | true =>
    simp only [reduceSource, State.signedB, BitVec.toInt_eq_toNat_cond, if_true, true_and]
    split <;> split <;> omega

theorem decodeR3_of_reserved {f : Reg → Reg → Reg → Instr} (h : bits w 15 12 ≠ 0 ∨ bits w 7 0 ≠ 0) :
    decodeR3 w f = .error .reservedBits :=
  if_neg fun ⟨hrb, hfn⟩ => h.elim (· hrb) (· hfn)

theorem decodeR3S_of_reserved {f : Reg → Reg → Reg → Bool → Instr} (h : bits w 15 12 ≠ 0 ∨ bits w 7 1 ≠ 0) :
    decodeR3S w f = .error .reservedBits :=
  if_neg fun ⟨hrb, hfn⟩ => h.elim (· hrb) (· hfn)

theorem decodeR4_of_reserved {f : Reg → Reg → Reg → Reg → Instr} (h : bits w 7 0 ≠ 0) :
    decodeR4 w f = .error .reservedBits :=
  if_neg h

/-- Settles O20: the source written out, and the residue of an integer of either sign. -/
theorem reduceIsTrueModulo : Obligations.ReduceIsTrueModulo := by
  refine ⟨fun rd ra rm signed s => ⟨fun hm => errorRecord_of_fail (execReduce_zero hm), fun hm => ?_⟩,
    fun w hop h => (decode_of_opcode (i := .reduce 0 0 0 false) hop).trans (decodeR3S_of_reserved h)⟩
  have hexec := execReduce_pos (rd := rd) (ra := ra) (signed := signed) hm
  rw [reduceSource_eq] at hexec
  exact residueWritten_of_finishReduce hm hexec

/-- INVERT below its least modulus (41_modarith R135, R141). -/
theorem exec_invert_small (rd ra : Reg) {rm : Reg} (h : (s.readB rm).toNat < 2) :
    ∃ t, exec (.invert rd ra rm) s = .next t ∧ ErrorRecord .modulus s t :=
  errorRecord_of_fail (execInvert_small h)

/-- Settles O21: INVERT writes `invert`, which is the Fermat power. -/
theorem invertIsFermatPower : Obligations.InvertIsFermatPower := by
  refine ⟨fun rd ra rm s => ⟨exec_invert_small rd ra, fun hm => ?_⟩,
    fun w hop h => (decode_of_opcode (i := .invert 0 0 0) hop).trans (decodeR3_of_reserved h)⟩
  have hexec := execInvert_big (rd := rd) (ra := ra) hm
  rw [invert_eq] at hexec
  exact registerWritten_of_finishResidue (Nat.mod_lt _ (by omega)) hexec

/-- Settles O22: MODEXP writes `modexp`, which is the power. -/
theorem modexpIsPower : Obligations.ModexpIsPower := by
  refine ⟨fun rd ra rb rm s => ⟨fun hm => errorRecord_of_fail (execModexp_zero hm), fun hm => ?_⟩,
    fun w hop h => (decode_of_opcode (i := .modexp 0 0 0 0) hop).trans (decodeR4_of_reserved h)⟩
  have hexec := execModexp_pos (rd := rd) (ra := ra) (rb := rb) hm
  rw [modexp_eq] at hexec
  exact registerWritten_of_finishResidue (Nat.mod_lt _ (Nat.pos_of_ne_zero hm)) hexec

/-- A word of one of the three opcodes with `fn` not zero is illegal (30_encoding R92, R98). -/
theorem decode_modarith_of_reserved (hop : fieldOp w = 0x13 ∨ fieldOp w = 0x14 ∨ fieldOp w = 0x15)
    (h : bits w 7 0 ≠ 0) : decode w = .error .reservedBits := by
  obtain hop | hop | hop := hop
  · exact (decode_of_opcode (i := .modadd 0 0 0 0) hop).trans (decodeR4_of_reserved h)
  · exact (decode_of_opcode (i := .modsub 0 0 0 0) hop).trans (decodeR4_of_reserved h)
  · exact (decode_of_opcode (i := .modmul 0 0 0 0) hop).trans (decodeR4_of_reserved h)

/-- Settles O23: the sum and the product are natural numbers, the difference is an integer of either sign. -/
theorem modAddSubMulResidues : Obligations.ModAddSubMulResidues := by
  refine ⟨fun rd ra rb rm s => ⟨fun hm => ?_, fun hm => ⟨?_, ?_, ?_⟩⟩, fun w => decode_modarith_of_reserved⟩
  · exact ⟨errorRecord_of_fail (execModadd_zero hm), errorRecord_of_fail (execModsub_zero hm),
      errorRecord_of_fail (execModmul_zero hm)⟩
  · exact modWritten_of_finishReduce hm (execModadd_pos hm)
  · exact residueWritten_of_finishReduce hm (execModsub_pos hm)
  · exact modWritten_of_finishReduce hm (execModmul_pos hm)

/-- Settles O24: the table of R141, row by row, from the Fermat power. -/
theorem invertInsideAndOutsidePrecondition : Obligations.InvertInsideAndOutsidePrecondition :=
  ⟨fun a m _ => invert_eq a m, fun _ _ => mul_invert_mod, fun _ _ _ => invert_of_mod_eq_zero,
    invert_two, by decide, by decide, fun a m _ => invert_mod a m,
    fun rd ra _ _ => exec_invert_small rd ra⟩

end Sys2Proof.Machine
end

section
/-! The padding of a message: the least multiple that fits, and its bytes (42_hash R168). -/

namespace Sys2Proof.Machine

/-- No smaller multiple of the block size holds the message, the byte 0x80 and the length field (42_hash R168). -/
theorem paddedLength_le {v : Variant} {len q : Nat} (hq : blockBytes v ∣ q) (room : len + 1 + lengthBytes v ≤ q) :
    paddedLength v len ≤ q := by
  obtain ⟨c, rfl⟩ := hq
  cases v <;> simp only [paddedLength, blockBytes, lengthBytes] at * <;> omega

theorem zeroCount_lt (v : Variant) (len : Nat) : zeroCount v len < blockBytes v := by
  cases v <;> simp only [zeroCount, paddedLength, blockBytes, lengthBytes] <;> omega

/-- The padding's parts fill the padded length (42_hash R168). -/
theorem add_zeroCount (v : Variant) (len : Nat) :
    len + 1 + zeroCount v len + lengthBytes v = paddedLength v len := by
  have room := paddedLength_room v len
  rw [zeroCount]
  omega

theorem getD_beBytes {n j : Nat} (v : Nat) (hj : j < n) :
    (beBytes n v).getD j 0 = BitVec.ofNat 8 (v / 256 ^ (n - 1 - j)) := by
  simp [beBytes, hj]

/-- The padding begins with 0x80. -/
theorem getD_padding_first (v : Variant) (len : Nat) : (padding v len).getD 0 0 = 0x80 := rfl

/-- Then come `NZ` zero bytes. -/
theorem getD_padding_zero {v : Variant} {len j : Nat} (hj : j < zeroCount v len) :
    (padding v len).getD (1 + j) 0 = 0 := by
  rw [padding, List.append_assoc, List.getD_append_right _ _ _ _ (by simp), List.getD_append _ _ _ _ (by simpa)]
  simp [hj]

/-- The last `LF` bytes are the big-endian bit length. -/
theorem getD_padding_length {v : Variant} {len j : Nat} (hj : j < lengthBytes v) :
    (padding v len).getD (1 + zeroCount v len + j) 0 = BitVec.ofNat 8 (8 * len / 256 ^ (lengthBytes v - 1 - j)) := by
  rw [padding, List.getD_append_right _ _ _ _ (by simp; omega)]
  simpa [Nat.add_comm 1] using getD_beBytes (8 * len) hj

/-- Settles O26: the least multiple and the three parts of the padding; the examples are evaluated. -/
theorem paddingIsSmallest : Obligations.PaddingIsSmallest := by
  refine ⟨fun v len => ?_, by decide⟩
  have hlength := add_length_padding v len
  refine ⟨blockBytes_dvd_paddedLength v len, paddedLength_room v len, fun _ => paddedLength_le, rfl,
    zeroCount_lt v len, by omega, getD_padding_first v len, fun _ => getD_padding_zero, fun _ => getD_padding_length⟩

end Sys2Proof.Machine
end

section
/-! The message schedule: each word after the sixteenth is the rule's function of the words before it (42_hash R172). -/

namespace Sys2Proof.Machine

open Sys2Proof.Claims

variable {w : Nat} {next : List (BitVec w) → BitVec w}

/-- The last word of a longer schedule is made from all the words before it. -/
theorem extendSchedule_succ (n : Nat) (rev : List (BitVec w)) :
    extendSchedule next (n + 1) rev = next (extendSchedule next n rev) :: extendSchedule next n rev := by
  induction n generalizing rev with
  | zero => rfl
  | succ n ih => exact ih (next rev :: rev)

/-- One more round needs one more word, made from the words so far, the latest first. -/
theorem messageSchedule_succ {n : Nat} (hn : 16 ≤ n) (block : List (BitVec w)) :
    messageSchedule next (n + 1) block =
      messageSchedule next n block ++ [next (messageSchedule next n block).reverse] := by
  rw [messageSchedule, Nat.succ_sub hn, extendSchedule_succ, List.reverse_cons, messageSchedule, List.reverse_reverse]

/-- The rules count back from the newest word, which stands first in the reversed list. -/
theorem getD_reverse {words : List (BitVec w)} {k : Nat} (hk : k < words.length) :
    words.reverse.getD k 0 = words.getD (words.length - 1 - k) 0 := by
  simp [List.getD_eq_getElem?_getD, List.getElem?_reverse hk]

/-- A schedule follows a recurrence that reads only earlier words when the next word does (42_hash R172). -/
theorem scheduleOf_messageSchedule {rule : (Nat → BitVec w) → Nat → BitVec w}
    (hnext : ∀ words : List (BitVec w), 16 ≤ words.length →
      next words.reverse = rule (fun j => words.getD j 0) words.length)
    (hrule : ∀ (x y : Nat → BitVec w) (t : Nat), 16 ≤ t → (∀ j, j < t → x j = y j) → rule x t = rule y t)
    {n : Nat} (hn : 16 ≤ n) {block : List (BitVec w)} (hblock : block.length = 16) :
    ScheduleOf block (messageSchedule next n block) n rule := by
  induction n, hn using Nat.le_induction with
  | base =>
    have hfirst : messageSchedule next 16 block = block := List.reverse_reverse block
    refine ⟨?_, fun t _ => ?_, fun t h16 ht => absurd ht (Nat.not_lt.2 h16)⟩
    · rw [hfirst, hblock]
    · rw [hfirst]
  | succ n hn ih =>
    obtain ⟨hlength, hfirst, hlater⟩ := ih
    have hold (j : Nat) (hj : j < n) : (messageSchedule next (n + 1) block).getD j 0 =
        (messageSchedule next n block).getD j 0 := by
      rw [messageSchedule_succ hn, List.getD_append _ _ _ _ (by omega)]
    refine ⟨?_, fun t ht => ?_, fun t h16 ht => ?_⟩
    · rw [messageSchedule_succ hn, List.length_append, hlength, List.length_singleton]
    · rw [hold t (by omega), hfirst t ht]
    · rw [hrule _ _ t h16 fun j hj => hold j (by omega)]
      obtain hlt | heq := Nat.lt_succ_iff_lt_or_eq.1 ht
      · rw [hold t hlt, hlater t h16 hlt]
      · rw [messageSchedule_succ hn, heq, List.getD_append_right _ _ _ _ hlength.le, hnext _ (hn.trans hlength.ge),
          hlength, Nat.sub_self, List.getD_cons_zero]

/-- The recurrence of V20 is `nextWord1` read backwards from the newest word. -/
theorem nextWord1_reverse {words : List Word} (h : 16 ≤ words.length) :
    nextWord1 words.reverse =
      (words.getD (words.length - 3) 0 ^^^ words.getD (words.length - 8) 0 ^^^ words.getD (words.length - 14) 0 ^^^
        words.getD (words.length - 16) 0).rotateLeft 1 := by
  have hword (k : Nat) (hk : k < 16) := getD_reverse (hk.trans_le h)
  simp only [nextWord1, hword _ (show 2 < 16 by decide), hword _ (show 7 < 16 by decide),
    hword _ (show 13 < 16 by decide), hword _ (show 15 < 16 by decide), Nat.sub_sub]

/-- The recurrence of V32 and V64 is `nextWord2` read backwards from the newest word. -/
theorem nextWord2_reverse (c : Sha2Tables w) {words : List (BitVec w)} (h : 16 ≤ words.length) :
    nextWord2 c words.reverse =
      smallSigma c.ssig1 (words.getD (words.length - 2) 0) + words.getD (words.length - 7) 0 +
        smallSigma c.ssig0 (words.getD (words.length - 15) 0) + words.getD (words.length - 16) 0 := by
  have hword (k : Nat) (hk : k < 16) := getD_reverse (hk.trans_le h)
  simp only [nextWord2, hword _ (show 1 < 16 by decide), hword _ (show 6 < 16 by decide),
    hword _ (show 14 < 16 by decide), hword _ (show 15 < 16 by decide), Nat.sub_sub]

/-- The schedule of V32 and V64 for any tables. -/
theorem scheduleOf_nextWord2 (c : Sha2Tables w) {n : Nat} (hn : 16 ≤ n) {block : List (BitVec w)}
    (hblock : block.length = 16) :
    ScheduleOf block (messageSchedule (nextWord2 c) n block) n
      (fun x t => smallSigma c.ssig1 (x (t - 2)) + x (t - 7) + smallSigma c.ssig0 (x (t - 15)) + x (t - 16)) := by
  refine scheduleOf_messageSchedule (fun _ => nextWord2_reverse c) (fun x y t ht hxy => ?_) hn hblock
  simp only [hxy (t - 2) (by omega), hxy (t - 7) (by omega), hxy (t - 15) (by omega), hxy (t - 16) (by omega)]

/-- Settles O27: the message words by definition, the later words by the recurrence of each variant. -/
theorem scheduleRecurrence : Obligations.ScheduleRecurrence := by
  refine ⟨fun v w mb base t ht => ?_, fun block hblock => ?_,
    fun block => scheduleOf_nextWord2 Config.v32 (by decide), fun block => scheduleOf_nextWord2 Config.v64 (by decide)⟩
  · simp [messageWords, ht]
  · refine scheduleOf_messageSchedule (fun _ => nextWord1_reverse) (fun x y t ht hxy => ?_) (by decide) hblock
    simp only [hxy (t - 3) (by omega), hxy (t - 8) (by omega), hxy (t - 14) (by omega), hxy (t - 16) (by omega)]

end Sys2Proof.Machine
end

section
/-! The rounds as sequences of working variables: the state after the first `t` schedule words (42_hash R174, R175). -/

namespace Sys2Proof.Machine

open Sys2Proof.Claims

/-- One more schedule word is one more round of V20 (42_hash R174). -/
theorem rounds1_take_succ (k : Sha1Tables) (start : Nat) {words : List Word} {t : Nat} (ht : t < words.length)
    (s : Working5) :
    rounds1 k start (words.take (t + 1)) s =
      round1 k (start + t) (words.getD t 0) (rounds1 k start (words.take t) s) := by
  induction words generalizing start t s with
  | nil => cases ht
  | cons x words ih =>
    cases t with
    | zero => rfl
    | succ t =>
      have hround := ih (start + 1) (Nat.lt_of_succ_lt_succ ht) (round1 k start x s)
      rwa [Nat.add_assoc, Nat.add_comm 1] at hround

/-- `f_t` with the round ranges of R161. -/
theorem roundFunction1_eq (t : Nat) (b c d : Word) :
    roundFunction1 t b c d =
      if t ≤ 19 then (b &&& c) ||| (~~~b &&& d)
      else if 40 ≤ t ∧ t ≤ 59 then (b &&& c) ||| (b &&& d) ||| (c &&& d)
      else b ^^^ c ^^^ d := by
  unfold roundFunction1
  by_cases h20 : t < 20
  · rw [if_pos h20, if_pos (by omega)]
  rw [if_neg h20, if_neg (by omega : ¬ t ≤ 19)]
  by_cases h40 : t < 40
  · rw [if_pos h40, if_neg (by omega)]
  · rw [if_neg h40]
    exact if_congr (by omega) rfl rfl

/-- `K_t` with the round ranges of R161. -/
theorem roundConstant1_eq {t : Nat} (ht : t < 80) :
    Config.v20.k.getD (t / 20) 0 =
      if t ≤ 19 then 0x5A827999 else if t ≤ 39 then 0x6ED9EBA1 else if t ≤ 59 then 0x8F1BBCDC else 0xCA62C1D6 := by
  split_ifs
  · rw [show t / 20 = 0 by omega]; rfl
  · rw [show t / 20 = 1 by omega]; rfl
  · rw [show t / 20 = 2 by omega]; rfl
  · rw [show t / 20 = 3 by omega]; rfl

/-- The working set of V20 after the first `t` rounds on `H` and the schedule (42_hash R174). -/
def workingSet1 (h words : List Word) (t : Nat) : Working5 :=
  rounds1 Config.v20 0 (words.take t) ⟨h.getD 0 0, h.getD 1 0, h.getD 2 0, h.getD 3 0, h.getD 4 0⟩

theorem workingSet1_succ (h : List Word) {words : List Word} {t : Nat} (ht : t < words.length) :
    workingSet1 h words (t + 1) = round1 Config.v20 t (words.getD t 0) (workingSet1 h words t) := by
  rw [workingSet1, rounds1_take_succ _ _ ht, Nat.zero_add]
  rfl

theorem compress1_eq_workingSet1 (h : List Word) {words : List Word} {n : Nat} (hn : words.length = n) :
    compress1 Config.v20 h words =
      let s := workingSet1 h words n
      [s.a, s.b, s.c, s.d, s.e] := by
  simp only [compress1, workingSet1, List.take_of_length_le hn.le]

/-- Settles O28: the sequences are the working sets after `t` rounds. -/
theorem twentyByteRounds : Obligations.TwentyByteRounds := by
  intro h words hwords
  let s := workingSet1 h words
  refine ⟨fun t => (s t).a, fun t => (s t).b, fun t => (s t).c, fun t => (s t).d, fun t => (s t).e, rfl,
    fun t ht => ?_, compress1_eq_workingSet1 h hwords⟩
  have hround : s (t + 1) = round1 Config.v20 t (words.getD t 0) (s t) := workingSet1_succ h (hwords ▸ ht)
  simp only [hround, round1, roundFunction1_eq, roundConstant1_eq ht, and_self]

/-- One more schedule word is one more round of V32 or V64 (42_hash R175). -/
theorem rounds2_take_succ {w : Nat} (c : Sha2Tables w) {ks words : List (BitVec w)} {t : Nat} (hk : t < ks.length)
    (ht : t < words.length) (s : Working8 w) :
    rounds2 c (ks.take (t + 1)) (words.take (t + 1)) s =
      round2 c (ks.getD t 0) (words.getD t 0) (rounds2 c (ks.take t) (words.take t) s) := by
  induction t generalizing ks words s with
  | zero =>
    obtain ⟨k, ks, rfl⟩ := List.exists_cons_of_length_pos hk
    obtain ⟨x, words, rfl⟩ := List.exists_cons_of_length_pos ht
    simp [rounds2]
  | succ t ih =>
    obtain ⟨k, ks, rfl⟩ := List.exists_cons_of_length_pos (Nat.zero_lt_of_lt hk)
    obtain ⟨x, words, rfl⟩ := List.exists_cons_of_length_pos (Nat.zero_lt_of_lt ht)
    exact ih (Nat.lt_of_succ_lt_succ hk) (Nat.lt_of_succ_lt_succ ht) (round2 c k x s)

/-- The working set of V32 or V64 after the first `t` rounds on `H` and the schedule (42_hash R175). -/
def workingSet2 {w : Nat} (c : Sha2Tables w) (h words : List (BitVec w)) (t : Nat) : Working8 w :=
  rounds2 c (c.k.take t) (words.take t)
    ⟨h.getD 0 0, h.getD 1 0, h.getD 2 0, h.getD 3 0, h.getD 4 0, h.getD 5 0, h.getD 6 0, h.getD 7 0⟩

theorem compress2_eq_workingSet2 {w n : Nat} (c : Sha2Tables w) (hk : c.k.length = n) (h : List (BitVec w))
    {words : List (BitVec w)} (hn : words.length = n) :
    compress2 c h words =
      let s := workingSet2 c h words n
      [s.a, s.b, s.c, s.d, s.e, s.f, s.g, s.h] := by
  simp only [compress2, workingSet2, List.take_of_length_le hn.le, List.take_of_length_le hk.le]

/-- The rounds of V32 and V64 for any tables with a constant for each round (42_hash R175). -/
theorem roundsOf_compress2 {w n : Nat} (c : Sha2Tables w) (hk : c.k.length = n) (h : List (BitVec w))
    {words : List (BitVec w)} (hwords : words.length = n) :
    RoundsOf (bigSigma c.bsig0) (bigSigma c.bsig1) c.k h words (compress2 c h words) n := by
  let s := workingSet2 c h words
  refine ⟨fun t => (s t).a, fun t => (s t).b, fun t => (s t).c, fun t => (s t).d, fun t => (s t).e,
    fun t => (s t).f, fun t => (s t).g, fun t => (s t).h, rfl, fun t ht => ?_, compress2_eq_workingSet2 c hk h hwords⟩
  have hround : s (t + 1) = round2 c (c.k.getD t 0) (words.getD t 0) (s t) :=
    rounds2_take_succ c (hk ▸ ht) (hwords ▸ ht) _
  simp only [hround, round2, choose, majority, and_self]

/-- Settles O29: the tables of V32 have 64 constants, those of V64 80. -/
theorem eightWordRounds : Obligations.EightWordRounds :=
  ⟨fun h _ => roundsOf_compress2 Config.v32 rfl h, fun h _ => roundsOf_compress2 Config.v64 rfl h⟩

end Sys2Proof.Machine
end

section
/-! SUPPORT. What each hash command answers under its conditions (42_hash R171 to R177). -/

namespace Sys2Proof.Machine

variable {s : State}

theorem exec_hPad_wrongState (h : s.hs ≠ .initialized) : exec .hPad s = fail .hstate s := if_pos h

theorem exec_hPad_tooLong (hs : s.hs = .initialized)
    (long : messageTooLong s.config.msgCap s.hv s.mlen.toNat = true) : exec .hPad s = fail .msglen s := by
  simpa [exec, hs, long] using execHPad_cases s

theorem exec_hPad_fits (hs : s.hs = .initialized)
    (fits : messageTooLong s.config.msgCap s.hv s.mlen.toNat = false) : exec .hPad s = finish s.padMessage := by
  simpa [exec, hs, fits] using execHPad_cases s

theorem exec_hCompress_fail (h : s.hs ≠ .padded ∧ s.hs ≠ .processing ∨ s.plen.toNat ≤ s.blockOffset) :
    exec .hCompress s = fail .hstate s := by
  obtain ⟨-, hf⟩ | ⟨-, -, hf⟩ | ⟨hs, left, -⟩ | ⟨hs, left, -⟩ := execHCompress_cases s
  · exact hf
  · exact hf
  all_goals exact absurd h (by rw [not_or, not_and_or, not_not, not_not]; exact ⟨hs, Nat.not_le.2 left⟩)

theorem exec_hCompress_finish (hs : s.hs = .padded ∨ s.hs = .processing) (left : s.blockOffset < s.plen.toNat)
    (inside : s.blockOffset + blockBytes s.hv ≤ s.config.msgCap) : exec .hCompress s = finish s.compressBlock := by
  have hstate : ¬ (s.hs ≠ .padded ∧ s.hs ≠ .processing) := by rwa [not_and_or, not_not, not_not]
  exact (if_neg hstate).trans ((if_neg (Nat.not_le.2 left)).trans (if_neg (Nat.not_lt.2 inside)))

/-- In a state of the invariant a block that is left lies in MB (20_memory R79). -/
theorem State.Inv.exec_hCompress (hi : s.Inv) (hs : s.hs = .padded ∨ s.hs = .processing)
    (left : s.blockOffset < s.plen.toNat) : Machine.exec .hCompress s = finish s.compressBlock :=
  exec_hCompress_finish hs left ((hi.block_le_plen left).trans hi.capacity)

theorem exec_hFinal_fail (h : s.hs ≠ .processing ∨ s.blockOffset ≠ s.plen.toNat) :
    exec .hFinal s = fail .hstate s := if_pos h

theorem exec_hFinal_finish (hs : s.hs = .processing) (whole : s.blockOffset = s.plen.toNat) :
    exec .hFinal s = finish s.finalizeHash := by
  simpa [exec, hs, whole] using execHFinal_cases s

theorem exec_hDigest_tooLong {v : Variant} (long : messageTooLong s.config.msgCap v s.mlen.toNat = true) :
    exec (.hDigest v) s = fail .msglen s := if_pos long

theorem exec_hDigest_fits {v : Variant} (fits : messageTooLong s.config.msgCap v s.mlen.toNat = false) :
    exec (.hDigest v) s = finish (s.digestMessage v) := by
  simpa [exec, fits] using execHDigest_cases v s

theorem messageTooLong_eq_true {cap len : Nat} {v : Variant} :
    messageTooLong cap v len = true ↔ cap < len ∨ cap < paddedLength v len := by
  simp [messageTooLong]

end Sys2Proof.Machine
end

section
/-! The hash state machine (42_hash R169). -/

namespace Sys2Proof.Machine

open Sys2Proof.Claims

variable {s t : State} {i : Instr}

theorem hashTransition_hPad (hs : HashState) (all : Bool) :
    hashTransition .hPad hs all = if hs = .initialized then some .padded else none := by
  cases hs <;> rfl

theorem hashTransition_hCompress (hs : HashState) (all : Bool) :
    hashTransition .hCompress hs all =
      if hs = .padded ∨ hs = .processing ∧ all = false then some .processing else none := by
  cases hs <;> cases all <;> rfl

theorem hashTransition_hFinal (hs : HashState) (all : Bool) :
    hashTransition .hFinal hs all = if hs = .processing ∧ all = true then some .finalized else none := by
  cases hs <;> cases all <;> rfl

/-- Every block is compressed exactly when the next offset is the end of the padded message (10_state R33, R35). -/
theorem State.Inv.allCompressed_iff (hi : s.Inv) :
    s.blk.toNat = s.plen.toNat / blockBytes s.hv ↔ s.blockOffset = s.plen.toNat :=
  (Nat.eq_div_iff_mul_eq_left (blockBytes_pos s.hv).ne' hi.wholeBlocks).trans eq_comm

/-- In Padded and, until every block is compressed, in Processing a block is left (42_hash R169, R173). -/
theorem State.Inv.block_left_iff (hi : s.Inv) :
    (s.hs = .padded ∨ s.hs = .processing) ∧ s.blockOffset < s.plen.toNat ↔
      s.hs = .padded ∨ s.hs = .processing ∧ decide (s.blk.toNat = s.plen.toNat / blockBytes s.hv) = false := by
  rw [decide_eq_false_iff_not, hi.allCompressed_iff, or_and_right]
  refine or_congr (and_iff_left_of_imp fun hs => ?_) (and_congr_right fun _ => hi.progress.lt_iff_ne)
  obtain ⟨hblk, hplen⟩ := hi.paddedStart hs
  rw [State.blockOffset, hblk]
  simpa [Nat.pos_iff_ne_zero] using fun h => hplen (BitVec.eq_of_toNat_eq h)

/-- A command that is no hash command writes nothing of the hash context (42_hash R169). -/
theorem exec_hs_of_not_isHash (hh : isHash i = false) (h : exec i s = .next t) : t.hs = s.hs := by
  obtain ⟨e, rfl⟩ | ⟨u, hu, rfl⟩ := exec_next h
  · rfl
  cases hu with
  | nop | ldc | residue | point => rfl
  | hInit | hPad | hCompress | hFinal | hDigest => cases hh

/-- Settles O30: the table row by row; where it has E the command fails, and only a message too long keeps H_PAD and
H_DIGEST from the state it names. -/
theorem hashStateMachine : Obligations.HashStateMachine := by
  refine ⟨fun i s hi hh => ?_, fun _ _ _ => exec_hs_of_not_isHash⟩
  cases i with
  | hInit v => exact .inl ⟨_, execHInit_next.2 rfl, rfl, rfl, rfl⟩
  | hPad =>
    rw [hashTransition_hPad]
    by_cases hs : s.hs = .initialized
    · rw [if_pos hs]
      cases hlong : messageTooLong s.config.msgCap s.hv s.mlen.toNat with
      | true => exact .inr ⟨.inl rfl, _, exec_hPad_tooLong hs hlong, rfl, rfl⟩
      | false => exact .inl ⟨_, exec_hPad_fits hs hlong, rfl, rfl, rfl⟩
    · rw [if_neg hs]
      exact ⟨_, exec_hPad_wrongState hs, rfl, rfl⟩
  | hCompress =>
    rw [hashTransition_hCompress, if_congr hi.block_left_iff.symm rfl rfl]
    by_cases hleft : (s.hs = .padded ∨ s.hs = .processing) ∧ s.blockOffset < s.plen.toNat
    · rw [if_pos hleft]
      exact .inl ⟨_, hi.exec_hCompress hleft.1 hleft.2, rfl, rfl, rfl⟩
    · rw [if_neg hleft]
      refine ⟨_, exec_hCompress_fail ?_, rfl, rfl⟩
      rwa [not_and_or, not_or, Nat.not_lt] at hleft
  | hFinal =>
    rw [hashTransition_hFinal,
      if_congr (and_congr_right fun _ => decide_eq_true_iff.trans hi.allCompressed_iff) rfl rfl]
    by_cases hall : s.hs = .processing ∧ s.blockOffset = s.plen.toNat
    · rw [if_pos hall]
      exact .inl ⟨_, exec_hFinal_finish hall.1 hall.2, rfl, rfl, rfl⟩
    · rw [if_neg hall]
      exact ⟨_, exec_hFinal_fail (not_and_or.1 hall), rfl, rfl⟩
  | hDigest v =>
    cases hlong : messageTooLong s.config.msgCap v s.mlen.toNat with
    | true => exact .inr ⟨.inr ⟨v, rfl⟩, _, exec_hDigest_tooLong hlong, rfl, rfl⟩
    | false =>
      refine .inl ⟨_, exec_hDigest_fits hlong, rfl, rfl, ?_⟩
      rw [digestMessage_frame]
      rfl
  | _ => cases hh

end Sys2Proof.Machine
end

section
/-! H_INIT, H_PAD and H_FINAL: what each writes, and nothing else (42_hash R170, R171, R176). -/

namespace Sys2Proof.Machine

open Sys2Proof.Claims

/-- The initial values as numbers, the unused words of V20 zero (42_hash R161 to R166, R170). -/
theorem initialWords_toNat (v : Variant) :
    (initialWords v).toList.map BitVec.toNat =
      match v with
      | .v20 => [0x67452301, 0xEFCDAB89, 0x98BADCFE, 0x10325476, 0xC3D2E1F0, 0, 0, 0]
      | .v32 => [0x6A09E667, 0xBB67AE85, 0x3C6EF372, 0xA54FF53A, 0x510E527F, 0x9B05688C, 0x1F83D9AB, 0x5BE0CD19]
      | .v64 => [0x6A09E667F3BCC908, 0xBB67AE8584CAA73B, 0x3C6EF372FE94F82B, 0xA54FF53A5F1D36F1,
          0x510E527FADE682D1, 0x9B05688C2B3E6C1F, 0x1F83D9ABFB41BD6B, 0x5BE0CD19137E2179] := by
  cases v <;> decide +kernel

/-- A word of the opcode of H_INIT is read in format V, so a reserved bit or the variant number 3 makes it illegal
(30_encoding R92, R101). -/
theorem decode_hInit_opcode_rejects {w : Word} (hop : fieldOp w = 0x20) (h : bits w 23 2 ≠ 0 ∨ bits w 1 0 = 3) :
    ∃ e, decode w = .error e := by
  refine decode_rejects fun i hi => ?_
  rw [decode_of_opcode (i := .hInit .v20) hop] at hi
  obtain ⟨hz, v, hv, -⟩ := decodeV_eq_ok.1 hi
  obtain hnz | hnumber := h
  · exact hnz hz
  · rw [hnumber] at hv
    cases hv

/-- Settles O31: the updates of H_INIT, the words of its opcode, and the printed example. -/
theorem hInitStartsContext : Obligations.HInitStartsContext := by
  refine ⟨fun v s => ⟨_, execHInit_next.2 rfl, rfl, rfl, rfl, rfl, fun k => ?_, ?_, rfl⟩,
    fun _ => decode_hInit_opcode_rejects, by decide⟩
  · simp
  · cases v <;> exact initialWords_toNat _

/-- MB after the padding in place, byte by byte (42_hash R171). -/
theorem read_writeBytes_padding_eq {m : Memory} (hm : m.wf = true) (v : Variant) (len a : Nat) :
    (m.writeBytes len (padding v len)).read a =
      if a < len then m.read a
      else if a = len then 0x80
      else if a < len + 1 + zeroCount v len then 0
      else if a < paddedLength v len then BitVec.ofNat 8 (8 * len / 256 ^ (paddedLength v len - 1 - a))
      else m.read a := by
  have hparts := add_zeroCount v len
  by_cases hmessage : a < len
  · rw [read_writeBytes_padding hm v (.inl hmessage), if_pos hmessage]
  rw [if_neg hmessage]
  by_cases hbeyond : paddedLength v len ≤ a
  · rw [read_writeBytes_padding hm v (.inr hbeyond), if_neg (by omega), if_neg (by omega), if_neg (by omega)]
  rw [Memory.read_writeBytes _ _ hm, add_length_padding, if_pos (by omega)]
  by_cases hfirst : a = len
  · rw [if_pos hfirst, hfirst, Nat.sub_self, getD_padding_first]
  rw [if_neg hfirst]
  by_cases hzero : a < len + 1 + zeroCount v len
  · rw [if_pos hzero, show a - len = 1 + (a - len - 1) by omega, getD_padding_zero (by omega)]
  · rw [if_neg hzero, if_pos (by omega),
      show a - len = 1 + zeroCount v len + (a - (len + 1 + zeroCount v len)) by omega,
      getD_padding_length (by omega),
      show lengthBytes v - 1 - (a - (len + 1 + zeroCount v len)) = paddedLength v len - 1 - a by omega]

/-- Settles O32: the three outcomes of H_PAD, the last with MB byte by byte. -/
theorem hPadPadsInPlace : Obligations.HPadPadsInPlace := by
  refine fun s hm => ⟨fun hs => errorRecord_of_fail (exec_hPad_wrongState hs), fun hs hlong => ?_,
    fun hs hlen hp => ?_⟩
  · exact errorRecord_of_fail (exec_hPad_tooLong hs (messageTooLong_eq_true.2 hlong))
  · have fits := messageTooLong_eq_false.2 ⟨hlen, hp⟩
    exact ⟨_, exec_hPad_fits hs fits, read_writeBytes_padding_eq hm s.hv _, State.padMessage_plen_toNat fits, rfl⟩

/-- Chunks of one length laid end to end: element `k` stands in chunk `k / n` at place `k mod n`. -/
theorem getElem?_flatMap_of_length {α β : Type} {f : α → List β} {n : Nat} (hn : 0 < n)
    (hf : ∀ x, (f x).length = n) (l : List α) (k : Nat) :
    (l.flatMap f)[k]? = l[k / n]?.bind fun x => (f x)[k % n]? := by
  induction l generalizing k with
  | nil => simp
  | cons x l ih =>
    rw [List.flatMap_cons]
    by_cases hk : k < n
    · rw [List.getElem?_append_left (by rwa [hf]), Nat.div_eq_of_lt hk, Nat.mod_eq_of_lt hk]
      rfl
    · obtain ⟨j, rfl⟩ := Nat.exists_eq_add_of_le (Nat.le_of_not_lt hk)
      rw [List.getElem?_append_right (by rw [hf]; omega), hf, Nat.add_sub_cancel_left, ih, Nat.add_div_left _ hn,
        Nat.add_mod_left, List.getElem?_cons_succ]

theorem wordBytes_pos (v : Variant) : 0 < wordBytes v := by cases v <;> decide

theorem digestWords_le (v : Variant) : digestWords v ≤ 8 := by cases v <;> decide

theorem digestWords_mul_wordBytes (v : Variant) : digestWords v * wordBytes v = digestBytes v := by cases v <;> rfl

/-- DG after H_FINAL, byte by byte (42_hash R176). -/
theorem getElem_digestBuffer_serialize (v : Variant) (h : Vector HashWord 8) (k : Fin 64) :
    (digestBuffer (serialize v h))[k] =
      if k.val < digestBytes v then
        BitVec.ofNat 8 ((h[k.val / wordBytes v]?.getD 0).toNat / 256 ^ (wordBytes v - 1 - k.val % wordBytes v))
      else 0 := by
  have hbyte := getElem?_flatMap_of_length (wordBytes_pos v) (fun x : HashWord => length_beBytes _ x.toNat)
    (h.toList.take (digestWords v)) k
  have hword : k.val / wordBytes v < digestWords v ↔ k.val < digestBytes v := by
    rw [Nat.div_lt_iff_lt_mul (wordBytes_pos v), digestWords_mul_wordBytes]
  simp only [digestBuffer, Fin.getElem_fin, Vector.getElem_ofFn, serialize, List.getD_eq_getElem?_getD, hbyte,
    List.getElem?_take, hword]
  split
  case isTrue hk =>
    have hindex : k.val / wordBytes v < 8 := (hword.2 hk).trans_le (digestWords_le v)
    have hget := getD_beBytes (h[k.val / wordBytes v]).toNat (Nat.mod_lt k (wordBytes_pos v))
    simpa [hindex] using hget
  case isFalse => rfl

/-- Settles O34: H_FINAL fails or serializes H into DG. -/
theorem hFinalSerializesDigest : Obligations.HFinalSerializesDigest :=
  fun s => ⟨fun h => errorRecord_of_fail (exec_hFinal_fail h), fun hs whole =>
    ⟨_, exec_hFinal_finish hs whole, getElem_digestBuffer_serialize s.hv s.h, rfl⟩⟩

end Sys2Proof.Machine
end

section
/-! H_COMPRESS: the words of H after one block (42_hash R173). -/

namespace Sys2Proof.Machine

open Sys2Proof.Claims

/-- The first `n` words of H after `H[i] <- H[i] +w ws[i]`, and the words beyond (42_hash R173). -/
theorem getElem_writeHashWords_add {w n : Nat} (hn : n ≤ 8) (h : Vector HashWord 8) {ws : List (BitVec w)}
    (hws : ws.length = n) (k : Fin 8) :
    (writeHashWords h (List.zipWith (· + ·) (readHashWords w n h) ws))[k] =
      if k.val < n then (h[k].setWidth w + ws.getD k.val 0).setWidth 64 else h[k] := by
  have hlength : (readHashWords w n h).length = n := by simpa [readHashWords] using hn
  by_cases hk : k.val < n
  · rw [if_pos hk, getElem_writeHashWords]
    simp [readHashWords, hk, hws]
  · rw [if_neg hk, writeHashWords_beyond]
    rw [List.length_zipWith, hlength, hws]
    omega

/-- All eight words of H, as words of the variant. -/
theorem readHashWords_eight (w : Nat) (h : Vector HashWord 8) :
    readHashWords w 8 h = h.toList.map fun x => x.setWidth w := by
  rw [readHashWords, List.take_of_length_le (by simp)]

/-- The rounds of V20 read the first five words of H only (42_hash R174). -/
theorem compress1_readHashWords (k : Sha1Tables) (h : Vector HashWord 8) (words : List Word) :
    compress1 k (readHashWords 32 5 h) words = compress1 k (h.toList.map fun x => x.setWidth 32) words := by
  simp [compress1, readHashWords]

theorem length_compress2 {w : Nat} (c : Sha2Tables w) (h words : List (BitVec w)) : (compress2 c h words).length = 8 :=
  rfl

theorem getElem_compressWords_v20 (mb : Memory) (base : Nat) (h : Vector HashWord 8) (k : Fin 8) :
    (compressWords .v20 mb base h)[k] =
      if k.val < 5 then
        ((h[k].setWidth 32 +
          (compress1 Config.v20 (h.toList.map (fun x => x.setWidth 32))
            (messageSchedule nextWord1 80 (messageWords 32 .v20 mb base))).getD k.val 0 : Word)).setWidth 64
      else h[k] := by
  rw [compressWords, getElem_writeHashWords_add (by decide) h (length_compress1 ..), compress1_readHashWords]

theorem getElem_compressWords_v32 (mb : Memory) (base : Nat) (h : Vector HashWord 8) (k : Fin 8) :
    (compressWords .v32 mb base h)[k] =
      ((h[k].setWidth 32 +
        (compress2 Config.v32 (h.toList.map (fun x => x.setWidth 32))
          (messageSchedule (nextWord2 Config.v32) 64 (messageWords 32 .v32 mb base))).getD k.val 0 : Word)).setWidth 64 := by
  rw [compressWords, getElem_writeHashWords_add (by decide) h (length_compress2 ..), if_pos k.isLt, readHashWords_eight]

theorem getElem_compressWords_v64 (mb : Memory) (base : Nat) (h : Vector HashWord 8) (k : Fin 8) :
    (compressWords .v64 mb base h)[k] =
      h[k] + (compress2 Config.v64 h.toList
        (messageSchedule (nextWord2 Config.v64) 80 (messageWords 64 .v64 mb base))).getD k.val 0 := by
  rw [compressWords, getElem_writeHashWords_add (by decide) h (length_compress2 ..), if_pos k.isLt, readHashWords_eight]
  simp only [BitVec.setWidth_eq, List.map_id']

/-- Settles O33: H_COMPRESS fails or compresses the block at `BLK * BS`, which the invariant keeps inside MB. -/
theorem hCompressAddsRounds : Obligations.HCompressAddsRounds := by
  refine fun s hi => ⟨fun h => errorRecord_of_fail (exec_hCompress_fail h), fun hs left => ?_⟩
  have hwords {v : Variant} (hv : s.hv = v) (k : Fin 8) :
      s.compressBlock.h[k] = (compressWords v s.mb s.blockOffset s.h)[k] := by rw [← hv]; rfl
  refine ⟨_, hi.exec_hCompress hs left, hi.blk_succ_toNat left, rfl, fun _ => rfl, rfl, fun hv k => ?_, fun hv k => ?_,
    fun hv k => ?_⟩
  · exact (hwords hv k).trans (getElem_compressWords_v20 ..)
  · exact (hwords hv k).trans (getElem_compressWords_v32 ..)
  · exact (hwords hv k).trans (getElem_compressWords_v64 ..)

end Sys2Proof.Machine
end

section
/-! H_DIGEST is the sequence of the other commands (42_hash R177). -/

namespace Sys2Proof.Machine

open Sys2Proof.Claims

variable {s : State} {n : Nat}

theorem compressBlocks_hv (n : Nat) (s : State) : (s.compressBlocks n).hv = s.hv :=
  by rw [compressBlocks_frame]

theorem compressBlocks_plen (n : Nat) (s : State) : (s.compressBlocks n).plen = s.plen :=
  by rw [compressBlocks_frame]

theorem compressBlocks_succ_hs (n : Nat) (s : State) : (s.compressBlocks (n + 1)).hs = .processing := by
  induction n generalizing s with
  | zero => rfl
  | succ n ih => exact ih s.compressBlock

/-- `s` has exactly `n` blocks left to compress, all of them in MB: what H_COMPRESS needs `n` times, in states that
need not meet the invariant (42_hash R173). -/
structure BlocksLeft (s : State) (n : Nat) : Prop where
  /-- H_COMPRESS is allowed. -/
  state : s.hs = .padded ∨ s.hs = .processing
  /-- The blocks left end where the padded message ends. -/
  whole : s.blockOffset + n * blockBytes s.hv = s.plen.toNat
  /-- The padded message lies in MB. -/
  capacity : s.plen.toNat ≤ s.config.msgCap

theorem BlocksLeft.block_le_plen (hb : BlocksLeft s (n + 1)) : s.blockOffset + blockBytes s.hv ≤ s.plen.toNat := by
  have hwhole := hb.whole
  rw [Nat.succ_mul] at hwhole
  omega

theorem BlocksLeft.exec_hCompress (hb : BlocksLeft s (n + 1)) : exec .hCompress s = finish s.compressBlock := by
  have hblock := hb.block_le_plen
  have hpos := blockBytes_pos s.hv
  exact exec_hCompress_finish hb.state (by omega) (hblock.trans hb.capacity)

/-- One block less is left: BLK does not wrap, since PLEN is below 2^31. -/
theorem BlocksLeft.compressBlock (hb : BlocksLeft s (n + 1)) : BlocksLeft s.compressBlock n := by
  have hblk : (s.blk + 1).toNat = s.blk.toNat + 1 := by
    have hle : s.blk.toNat ≤ s.blockOffset := Nat.le_mul_of_pos_right _ (blockBytes_pos s.hv)
    have hblock := hb.block_le_plen
    have hcap := hb.capacity
    have hmax := msgCap_lt s.config
    rw [BitVec.toNat_add, show (1 : Word).toNat = 1 from rfl]
    exact Nat.mod_eq_of_lt (by omega)
  refine ⟨.inr rfl, ?_, hb.capacity⟩
  have hwhole := hb.whole
  simp only [State.blockOffset, State.compressBlock_blk, State.compressBlock_hv, State.compressBlock_plen, hblk,
    Nat.succ_mul] at hwhole ⊢
  omega

theorem BlocksLeft.compressBlocks (hb : BlocksLeft s n) : BlocksLeft (s.compressBlocks n) 0 := by
  induction n generalizing s with
  | zero => exact hb
  | succ n ih => exact ih hb.compressBlock

/-- After the last block BLK is the number of blocks of the padded message (10_state R33). -/
theorem BlocksLeft.blk_eq (hb : BlocksLeft s 0) : s.blk.toNat = s.plen.toNat / blockBytes s.hv := by
  have hwhole : s.blk.toNat * blockBytes s.hv = s.plen.toNat := by simpa [State.blockOffset] using hb.whole
  rw [← hwhole, Nat.mul_div_cancel _ (blockBytes_pos s.hv)]

/-- After H_INIT and H_PAD of a message that fits every block is left (42_hash R170, R171). -/
theorem blocksLeft_padMessage {v : Variant} (fits : messageTooLong s.config.msgCap v s.mlen.toNat = false) :
    BlocksLeft (s.initHash v).padMessage (paddedLength v s.mlen.toNat / blockBytes v) := by
  have hplen : (s.initHash v).padMessage.plen.toNat = paddedLength v s.mlen.toNat :=
    State.padMessage_plen_toNat (s := s.initHash v) fits
  refine ⟨.inl rfl, ?_, hplen.le.trans (messageTooLong_eq_false.1 fits).2⟩
  rw [hplen]
  simpa [State.blockOffset] using Nat.div_mul_cancel (blockBytes_dvd_paddedLength v s.mlen.toNat)

/-- A sequence goes on from the completed state of its first command (42_hash R177). -/
theorem perform_cons {i : Instr} {u : State} (h : exec i s = finish u) (rest : List Instr) :
    perform (i :: rest) s = perform rest u.complete := by
  rw [perform, h]
  rfl

/-- H_COMPRESS for each block left. -/
theorem BlocksLeft.perform (hb : BlocksLeft s n) (rest : List Instr) :
    Claims.perform (List.replicate n .hCompress ++ rest) s.complete =
      Claims.perform rest (s.compressBlocks n).complete := by
  induction n generalizing s with
  | zero => rfl
  | succ n ih =>
    have hc : BlocksLeft s.complete (n + 1) := ⟨hb.state, hb.whole, hb.capacity⟩
    exact (perform_cons hc.exec_hCompress _).trans (ih hb.compressBlock)

theorem blockCount_pos (v : Variant) (len : Nat) : 0 < paddedLength v len / blockBytes v := by
  have room := paddedLength_room v len
  exact Nat.div_pos (Nat.le_of_dvd (by omega) (blockBytes_dvd_paddedLength v len)) (blockBytes_pos v)

/-- H_DIGEST compresses every block of the padded message (42_hash R177). -/
theorem digestMessage_eq {v : Variant} (fits : messageTooLong s.config.msgCap v s.mlen.toNat = false) :
    s.digestMessage v =
      ((s.initHash v).padMessage.compressBlocks (paddedLength v s.mlen.toNat / blockBytes v)).finalizeHash := by
  rw [State.digestMessage, State.padMessage_plen_toNat (s := s.initHash v) fits]
  rfl

/-- The sequence of R177 leaves the state that H_DIGEST leaves. -/
theorem perform_digest {v : Variant} (fits : messageTooLong s.config.msgCap v s.mlen.toNat = false) :
    perform ([.hInit v, .hPad] ++ List.replicate (paddedLength v s.mlen.toNat / blockBytes v) .hCompress ++ [.hFinal])
      s = .next (s.digestMessage v).complete := by
  have hblocks := blocksLeft_padMessage fits
  have hpos := blockCount_pos v s.mlen.toNat
  rw [digestMessage_eq fits, List.append_assoc]
  generalize paddedLength v s.mlen.toNat / blockBytes v = n at hblocks hpos ⊢
  have hstate : ((s.initHash v).padMessage.compressBlocks n).complete.hs = .processing := by
    obtain ⟨m, rfl⟩ := Nat.exists_eq_succ_of_ne_zero hpos.ne'
    exact compressBlocks_succ_hs m _
  have hwhole := hblocks.compressBlocks.whole
  rw [Nat.zero_mul, Nat.add_zero] at hwhole
  calc perform (.hInit v :: .hPad :: (List.replicate n .hCompress ++ [.hFinal])) s
      = perform (.hPad :: (List.replicate n .hCompress ++ [.hFinal])) (s.initHash v).complete := perform_cons rfl _
    _ = perform (List.replicate n .hCompress ++ [.hFinal]) (s.initHash v).padMessage.complete :=
        perform_cons (exec_hPad_fits rfl fits) _
    _ = perform [.hFinal] ((s.initHash v).padMessage.compressBlocks n).complete := hblocks.perform _
    _ = .next ((s.initHash v).padMessage.compressBlocks n).finalizeHash.complete :=
        perform_cons (exec_hFinal_finish hstate hwhole) _

/-- Settles O35: H_DIGEST answers what the sequence answers; then every block is compressed. -/
theorem hDigestIsStepByStep : Obligations.HDigestIsStepByStep := by
  refine fun v s => ⟨fun hlong => ?_, fun hlen hp => ?_⟩
  · exact errorRecord_of_fail (exec_hDigest_tooLong (messageTooLong_eq_true.2 hlong))
  have fits := messageTooLong_eq_false.2 ⟨hlen, hp⟩
  have hplen := State.padMessage_plen_toNat (s := s.initHash v) fits
  have hblk := (blocksLeft_padMessage fits).compressBlocks.blk_eq
  rw [compressBlocks_plen, compressBlocks_hv, hplen] at hblk
  refine ⟨_, exec_hDigest_fits fits, perform_digest fits, ?_⟩
  rw [digestMessage_eq fits]
  exact ⟨rfl, compressBlocks_hv .., (congrArg BitVec.toNat (compressBlocks_plen ..)).trans hplen, hblk⟩

end Sys2Proof.Machine
end

section
/-! The digest depends on the message alone: two runs keep the same hash context (42_hash R178). -/

namespace Sys2Proof.Machine

open Sys2Proof.Claims

variable {s u : State} {n : Nat}

/-- The words of a block depend on the bytes of the block only (42_hash R172). -/
theorem messageWords_congr {v : Variant} {m m' : Memory} {base : Nat}
    (h : ∀ a, base ≤ a → a < base + blockBytes v → m.read a = m'.read a) (w : Nat) :
    messageWords w v m base = messageWords w v m' base := by
  refine List.map_congr_left fun t ht => congrArg (fun bytes => BitVec.ofNat w (beInt bytes)) ?_
  refine List.map_congr_left fun i hi => h _ (by omega) ?_
  rw [List.mem_range] at ht hi
  cases v <;> simp only [wordBytes, blockBytes] at * <;> omega

theorem compressWords_congr {v : Variant} {m m' : Memory} {base : Nat}
    (h : ∀ a, base ≤ a → a < base + blockBytes v → m.read a = m'.read a) (hash : Vector HashWord 8) :
    compressWords v m base hash = compressWords v m' base hash := by
  cases v <;> simp only [compressWords, messageWords_congr h]

/-- Two states with the same hash context and the same padded message, whatever else they hold (42_hash R178). -/
structure SameHash (s u : State) : Prop where
  plen : s.plen = u.plen
  blk : s.blk = u.blk
  hs : s.hs = u.hs
  hv : s.hv = u.hv
  h : s.h = u.h
  mb : ∀ a, a < s.plen.toNat → s.mb.read a = u.mb.read a

/-- H_INIT and H_PAD of the same message that fits leave the same hash context. -/
theorem sameHash_padMessage {v : Variant} (hs : s.mb.wf = true) (hu : u.mb.wf = true) (hlen : s.mlen = u.mlen)
    (hread : ∀ a, a < s.mlen.toNat → s.mb.read a = u.mb.read a)
    (fits : messageTooLong s.config.msgCap v s.mlen.toNat = false) :
    SameHash (s.initHash v).padMessage (u.initHash v).padMessage := by
  refine ⟨by simp [hlen], rfl, rfl, rfl, rfl, fun a ha => ?_⟩
  rw [State.padMessage_plen_toNat (s := s.initHash v) fits] at ha
  change (s.mb.writeBytes s.mlen.toNat (padding v s.mlen.toNat)).read a =
    (u.mb.writeBytes u.mlen.toNat (padding v u.mlen.toNat)).read a
  rw [← hlen, Memory.read_writeBytes _ _ hs, Memory.read_writeBytes _ _ hu, add_length_padding]
  by_cases hmessage : a < s.mlen.toNat
  · rw [hread a hmessage]
  · rw [if_pos ⟨Nat.le_of_not_lt hmessage, ha⟩, if_pos ⟨Nat.le_of_not_lt hmessage, ha⟩]

/-- A block of the same message added to the same H is the same H. -/
theorem SameHash.compressBlock (h : SameHash s u) (hb : BlocksLeft s (n + 1)) :
    SameHash s.compressBlock u.compressBlock := by
  have hoffset : s.blockOffset = u.blockOffset := by rw [State.blockOffset, State.blockOffset, h.blk, h.hv]
  have hblock := hb.block_le_plen
  refine ⟨h.plen, congrArg (· + 1) h.blk, rfl, h.hv, ?_, h.mb⟩
  have hwords := compressWords_congr (v := s.hv) (fun a _ ha => h.mb a (ha.trans_le hblock)) s.h
  rw [State.compressBlock_h, State.compressBlock_h, hwords, h.hv, h.h, hoffset]

theorem SameHash.compressBlocks (h : SameHash s u) (hb : BlocksLeft s n) :
    SameHash (s.compressBlocks n) (u.compressBlocks n) := by
  induction n generalizing s u with
  | zero => exact h
  | succ n ih => exact ih (h.compressBlock hb) hb.compressBlock

/-- Settles O36: the two runs start from the same padded message and keep the same hash context block by block. -/
theorem digestDependsOnMessageOnly : Obligations.DigestDependsOnMessageOnly := by
  intro v s u s' u' hs hu hconfig hmlen hread hlen hp hs' hu'
  have fits := messageTooLong_eq_false.2 ⟨hlen, hp⟩
  have fitsU : messageTooLong u.config.msgCap v u.mlen.toNat = false := hconfig ▸ hmlen ▸ fits
  obtain rfl := finish_next.1 (exec_hDigest_fits fits ▸ hs')
  obtain rfl := finish_next.1 (exec_hDigest_fits fitsU ▸ hu')
  obtain ⟨plen, blk, -, hv, h, mb⟩ :=
    (sameHash_padMessage hs hu hmlen hread fits).compressBlocks (blocksLeft_padMessage fits)
  rw [digestMessage_eq fits, digestMessage_eq fitsU, ← hmlen]
  refine ⟨?_, h, blk, plen, rfl, hv, mb⟩
  rw [State.complete_dg, State.complete_dg, State.finalizeHash_dg, State.finalizeHash_dg, hv, h]

end Sys2Proof.Machine
end

section
/-! The printed digests (42_hash R180; 95_test_vectors H1, H2). -/

namespace Sys2Proof.Machine

/-- Settles O37: six closed evaluations of the model. -/
theorem knownDigests : Obligations.KnownDigests := by
  unfold Obligations.KnownDigests
  decide +kernel

end Sys2Proof.Machine
end

section
/-! SUPPORT. The point functions of both curves: the field of their results, a zero denominator, and the sentinel and
the negation as operands (43_weierstrass R202, R203, R209; 44_edwards R232, R233). -/

namespace Sys2Proof.Machine

variable {c : Curve} {a b : Point} {m x y y1 y2 : Nat}

@[simp] theorem reduce_zero (m : Nat) : reduce 0 m = 0 := by simp [reduce]

/-- The negation of a residue that is not 0 (41_modarith R131). -/
theorem reduce_neg (h0 : y ≠ 0) (hy : y < m) : reduce (-(y : Int)) m = m - y := by
  have hmod : -(y : Int) % (m : Int) = (m : Int) - y := by
    rw [← Int.add_emod_right, Int.emod_eq_of_lt (by omega) (by omega)]
    omega
  rw [reduce, hmod]
  omega

theorem reduce_neg_eq_zero_iff (hy : y < m) : reduce (-(y : Int)) m = 0 ↔ y = 0 := by
  by_cases h0 : y = 0
  · simp [h0]
  · rw [reduce_neg h0 hy]
    omega

theorem mk_eq_sentinel : (⟨x, y⟩ : Point) = sentinel ↔ x = 0 ∧ y = 0 := by rw [sentinel, Point.mk.injEq]

theorem inField_eq_true : a.inField m = true ↔ a.x < m ∧ a.y < m := decide_eq_true_iff

theorem inField_eq_false : a.inField m = false ↔ m ≤ a.x ∨ m ≤ a.y := by
  rw [Point.inField, decide_eq_false_iff_not]
  omega

/-! Results lie in the field (43_weierstrass R203). -/

theorem sentinel_inField (hm : m ≠ 0) : sentinel.inField m = true :=
  inField_eq_true.2 ⟨Nat.pos_of_ne_zero hm, Nat.pos_of_ne_zero hm⟩

theorem wDouble_inField (hc : c.prime ≠ 0) (a : Point) : (wDouble c a).inField c.prime = true :=
  inField_eq_true.2 ⟨reduce_lt _ hc, reduce_lt _ hc⟩

theorem wChord_inField (hc : c.prime ≠ 0) (a b : Point) : (wChord c a b).inField c.prime = true :=
  inField_eq_true.2 ⟨reduce_lt _ hc, reduce_lt _ hc⟩

/-- A sum is one of its operands only through the sentinel, and is below the prime in every other case. -/
theorem wSum_inField (hc : c.prime ≠ 0) (ha : a.inField c.prime = true) (hb : b.inField c.prime = true) :
    (wSum c a b).inField c.prime = true := by
  unfold wSum
  split_ifs
  · exact wDouble_inField hc a
  · exact sentinel_inField hc
  · exact hb
  · exact ha
  · exact wChord_inField hc a b

/-! A zero denominator makes the slope `invert 0 = 0` (43_weierstrass R209). -/

/-- The double of a pair with `y = 0`. -/
theorem wDouble_zero (hc : 2 < c.prime) (x : Nat) : wDouble c ⟨x, 0⟩ = ⟨reduce (-2 * (x : Int)) c.prime, 0⟩ := by
  have hinv : invert 0 c.prime = 0 := invert_of_mod_eq_zero hc (Nat.zero_mod _)
  have hx : -(x : Int) - x = -2 * x := by ring
  simp [wDouble, hinv, hx]

/-- The chord of two pairs with equal `x`. -/
theorem wChord_vertical (hc : 2 < c.prime) (x y1 y2 : Nat) :
    wChord c ⟨x, y1⟩ ⟨x, y2⟩ = ⟨reduce (-2 * (x : Int)) c.prime, reduce (-(y1 : Int)) c.prime⟩ := by
  have hinv : invert 0 c.prime = 0 := invert_of_mod_eq_zero hc (Nat.zero_mod _)
  have hx : -(x : Int) - x = -2 * x := by ring
  simp [wChord, hinv, hx]

theorem wDouble_sentinel (hc : 2 < c.prime) : wDouble c sentinel = sentinel := by
  simp [sentinel, wDouble_zero hc]

/-! The cases of the sums, first that holds (43_weierstrass R203, 44_edwards R233). -/

theorem wSum_self (c : Curve) (a : Point) : wSum c a a = wDouble c a := if_pos ⟨rfl, rfl⟩

/-- A pair and its negation, unless it is its own negation. -/
theorem wSum_neg (hodd : c.prime % 2 = 1) (hy : y < c.prime) (h0 : y ≠ 0) (x : Nat) :
    wSum c ⟨x, y⟩ ⟨x, reduce (-(y : Int)) c.prime⟩ = sentinel := by
  rw [reduce_neg h0 hy]
  have hne : y ≠ c.prime - y := by omega
  have hneg : y = reduce (-((c.prime - y : Nat) : Int)) c.prime := by
    rw [reduce_neg (by omega) (by omega)]
    omega
  exact (if_neg fun h => hne h.2).trans (if_pos ⟨rfl, hneg⟩)

/-- In the field the sentinel is a left identity: of the first two cases only the double of the sentinel can hold. -/
theorem wSum_sentinel_left (hc : 2 < c.prime) (ha : a.inField c.prime = true) : wSum c sentinel a = a := by
  obtain ⟨x, y⟩ := a
  obtain ⟨-, hy⟩ := inField_eq_true.1 ha
  by_cases hs : (⟨x, y⟩ : Point) = sentinel
  · rw [hs, wSum_self, wDouble_sentinel hc]
  · rw [mk_eq_sentinel] at hs
    have hsame : ¬(0 = x ∧ 0 = y) := fun ⟨hx, hy⟩ => hs ⟨hx.symm, hy.symm⟩
    have hneg : ¬(0 = x ∧ 0 = reduce (-(y : Int)) c.prime) := fun ⟨hx, h⟩ =>
      hs ⟨hx.symm, (reduce_neg_eq_zero_iff hy).1 h.symm⟩
    exact (if_neg hsame).trans ((if_neg hneg).trans (if_pos rfl))

/-- The sentinel is a right identity for every pair: it is the only pair with the sentinel as its negation. -/
theorem wSum_sentinel_right (hc : 2 < c.prime) (a : Point) : wSum c a sentinel = a := by
  by_cases hs : a = sentinel
  · rw [hs, wSum_self, wDouble_sentinel hc]
  · have hsame : ¬(a.x = 0 ∧ a.y = 0) := fun h => hs (mk_eq_sentinel.2 h)
    have hneg : ¬(a.x = 0 ∧ a.y = reduce (-((0 : Nat) : Int)) c.prime) := by simpa using hsame
    exact (if_neg hsame).trans ((if_neg hneg).trans ((if_neg hs).trans (if_pos rfl)))

/-- Equal `x` without equality, negation or the sentinel is left to the chord. -/
theorem wSum_vertical (hc : 2 < c.prime) (hne : y1 ≠ y2) (hneg : y1 ≠ reduce (-(y2 : Int)) c.prime)
    (ha : (⟨x, y1⟩ : Point) ≠ sentinel) (hb : (⟨x, y2⟩ : Point) ≠ sentinel) :
    wSum c ⟨x, y1⟩ ⟨x, y2⟩ = ⟨reduce (-2 * (x : Int)) c.prime, reduce (-(y1 : Int)) c.prime⟩ :=
  calc wSum c ⟨x, y1⟩ ⟨x, y2⟩
      = wChord c ⟨x, y1⟩ ⟨x, y2⟩ :=
        (if_neg fun h => hne h.2).trans ((if_neg fun h => hneg h.2).trans ((if_neg ha).trans (if_neg hb)))
    _ = _ := wChord_vertical hc x y1 y2

/-- On the Edwards curve the sentinel is a left identity for every pair: it is its own negation. -/
theorem eSum_sentinel_left (c : Curve) (a : Point) : eSum c sentinel a = a := by
  by_cases hs : a = sentinel
  · rw [hs]
    exact if_pos ⟨(reduce_zero _).symm, rfl⟩
  · have hzero : ¬(a.x = 0 ∧ a.y = 0) := fun h => hs (mk_eq_sentinel.2 h)
    have hneg : ¬(a.x = reduce (-((0 : Nat) : Int)) c.prime ∧ a.y = 0) := by simpa using hzero
    exact (if_neg hneg).trans (if_pos rfl)

end Sys2Proof.Machine
end

section
/-! SUPPORT. Scalar multiplication is the scan of the bits of the scalar from the least significant (43_weierstrass
R206, 44_edwards R235). -/

namespace Sys2Proof.Machine

open Sys2Proof.Claims

variable {add : Point → Point → Point} {dbl : Point → Point} {base : Point} {c : Curve} {a : Point}

/-- The loop ends when the remaining scalar is 0. -/
theorem scalarLoop_zero (add : Point → Point → Point) (dbl : Point → Point) (fuel : Nat) (acc run : Point) :
    scalarLoop add dbl fuel 0 acc run = acc := by
  cases fuel <;> rfl

/-- One bit of the loop; a remaining scalar of 0 has the bit 0 and remains 0. -/
theorem scalarLoop_succ (add : Point → Point → Point) (dbl : Point → Point) (fuel k : Nat) (acc run : Point) :
    scalarLoop add dbl (fuel + 1) k acc run =
      scalarLoop add dbl fuel (k / 2) (if k % 2 = 1 then add acc run else acc) (dbl run) := by
  by_cases hk : k = 0
  · subst hk
    rw [scalarLoop_zero]
    exact (scalarLoop_zero ..).symm
  · exact if_neg hk

/-- From the scan of `n` bits the loop continues to the scan of `n + fuel` bits. -/
theorem scalarLoop_scanBits (k fuel n : Nat) :
    scalarLoop add dbl fuel (k / 2 ^ n) (scanBits add dbl base k n).1 (scanBits add dbl base k n).2 =
      (scanBits add dbl base k (n + fuel)).1 := by
  induction fuel generalizing n with
  | zero => rfl
  | succ fuel ih =>
    have hscan := ih (n + 1)
    rw [pow_succ, ← Nat.div_div_eq_div_mul, show n + 1 + fuel = n + (fuel + 1) by omega] at hscan
    rw [scalarLoop_succ, ← hscan]
    simp only [scanBits, Nat.testBit_eq_decide_div_mod_eq, decide_eq_true_eq]

/-- The loop from the sentinel and the base is the scan of as many bits as it has fuel. -/
theorem scalarLoop_eq_scanBits (k fuel : Nat) :
    scalarLoop add dbl fuel k sentinel base = (scanBits add dbl base k fuel).1 := by
  have hloop := scalarLoop_scanBits (add := add) (dbl := dbl) (base := base) k fuel 0
  rwa [pow_zero, Nat.div_one, Nat.zero_add] at hloop

theorem wProduct_eq_scanBits (c : Curve) (a : Point) (k : Nat) :
    wProduct c a k = (scanBits (wSum c) (wDouble c) a k (bitLength k)).1 :=
  scalarLoop_eq_scanBits k (bitLength k)

theorem eProduct_eq_scanBits (c : Curve) (a : Point) (k : Nat) :
    eProduct c a k = (scanBits (eSum c) (fun q => eSum c q q) a k (bitLength k)).1 :=
  scalarLoop_eq_scanBits k (bitLength k)

/-- What holds of the sentinel and the base and is kept by both operations holds of both points of the scan. -/
theorem scanBits_keeps {P : Point → Prop} (h0 : P sentinel) (hbase : P base)
    (hadd : ∀ a b, P a → P b → P (add a b)) (hdbl : ∀ a, P a → P (dbl a)) (k n : Nat) :
    P (scanBits add dbl base k n).1 ∧ P (scanBits add dbl base k n).2 := by
  induction n with
  | zero => exact ⟨h0, hbase⟩
  | succ n ih =>
    obtain ⟨hacc, hrun⟩ := ih
    refine ⟨?_, hdbl _ hrun⟩
    cases hbit : k.testBit n with
    | false => simpa [scanBits, hbit] using hacc
    | true => simpa [scanBits, hbit] using hadd _ _ hacc hrun

theorem wProduct_inField (hc : c.prime ≠ 0) (ha : a.inField c.prime = true) (k : Nat) :
    (wProduct c a k).inField c.prime = true := by
  rw [wProduct_eq_scanBits]
  exact (scanBits_keeps (P := fun q => q.inField c.prime = true) (sentinel_inField hc) ha
    (fun _ _ => wSum_inField hc) (fun q _ => wDouble_inField hc q) k _).1

/-- The sentinel stays the sentinel under every scalar (43_weierstrass R208). -/
theorem wProduct_sentinel (hc : 2 < c.prime) (k : Nat) : wProduct c sentinel k = sentinel := by
  rw [wProduct_eq_scanBits]
  refine (scanBits_keeps (P := (· = sentinel)) rfl rfl ?_ ?_ k _).1
  · rintro _ _ rfl rfl
    exact wSum_sentinel_right hc sentinel
  · rintro _ rfl
    exact wDouble_sentinel hc

theorem eProduct_sentinel (c : Curve) (k : Nat) : eProduct c sentinel k = sentinel := by
  rw [eProduct_eq_scanBits]
  refine (scanBits_keeps (P := (· = sentinel)) rfl rfl ?_ ?_ k _).1
  · rintro _ _ rfl rfl
    exact eSum_sentinel_left c sentinel
  · rintro _ rfl
    exact eSum_sentinel_left c sentinel

/-- The one bit of the scalar 1 adds the base to the sentinel. -/
theorem wProduct_one (c : Curve) (a : Point) : wProduct c a 1 = wSum c sentinel a := rfl

theorem eProduct_one (c : Curve) (a : Point) : eProduct c a 1 = eSum c sentinel a := rfl

end Sys2Proof.Machine
end

section
/-! SUPPORT. The end of an ECU command, and the words of a row that are illegal (43_weierstrass R204 to R206, 44_edwards
R234, R235, 30_encoding R98, R100). -/

namespace Sys2Proof.Machine

open Sys2Proof.Claims

variable {s : State} {i : Instr} {rd : Reg} {p : Point}

/-- A pair that fits is read back as it was written: its two registers differ (10_state R23). -/
theorem State.readPair_writePair (s : State) (rd : Reg) (hx : p.x < 2 ^ 512) (hy : p.y < 2 ^ 512) :
    (s.writePair rd p).readPair rd = p := by
  have hne : rd ≠ rd + 1 := by
    revert rd
    decide
  have hfst : (s.writePair rd p).unsignedB rd = p.x := by
    rw [State.unsignedB, State.writePair, State.readB_writeB_other _ _ hne, State.readB_writeB_same]
    simp only [BitVec.toNat_ofNat, Nat.mod_eq_of_lt hx]
  have hsnd : (s.writePair rd p).unsignedB (rd + 1) = p.y := by
    rw [State.unsignedB, State.writePair, State.readB_writeB_same]
    simp only [BitVec.toNat_ofNat, Nat.mod_eq_of_lt hy]
  rw [State.readPair, hfst, hsnd]

/-- The end of an ECU command writes a pair of the field as it is (10_state R25, 40_control R119). -/
theorem pairWritten_of_finishPoint {m : Nat} (hm : m ≤ 2 ^ 512) (hp : p.inField m = true)
    (h : exec i s = finishPoint rd p s) : ∃ t, exec i s = .next t ∧ PairWritten rd p s t := by
  obtain ⟨hx, hy⟩ := inField_eq_true.1 hp
  refine ⟨_, h, ?_, ?_, fun k h1 h2 => s.readB_writePair_other p h1 h2, fun _ => rfl, rfl⟩
  · exact s.readPair_writePair rd (hx.trans_le hm) (hy.trans_le hm)
  · exact decide_eq_decide.2 mk_eq_sentinel.symm

/-- The outcomes of a legal ECU command, from the inversion lemma of its meaning: E_RANGE, or a pair of the field
written (43_weierstrass R204 to R206, 44_edwards R234, R235). -/
theorem rangeOrPairWritten {inRange : Bool} {m : Nat} (hwf : i.wf = true)
    (hcases : (i.wf = false ∧ exec i s = fail .illegal s) ∨
      (i.wf = true ∧ inRange = false ∧ exec i s = fail .range s) ∨
      (i.wf = true ∧ inRange = true ∧ exec i s = finishPoint rd p s))
    (hm : m ≤ 2 ^ 512) (hp : inRange = true → p.inField m = true) :
    (inRange = false → ∃ t, exec i s = .next t ∧ ErrorRecord .range s t) ∧
    (inRange = true → ∃ t, exec i s = .next t ∧ PairWritten rd p s t) := by
  obtain ⟨hillegal, -⟩ | ⟨-, rfl, h⟩ | ⟨-, rfl, h⟩ := hcases
  · cases hwf.symm.trans hillegal
  · exact ⟨fun _ => errorRecord_of_fail h, nofun⟩
  · exact ⟨nofun, fun _ => pairWritten_of_finishPoint hm (hp rfl) h⟩

/-- Of the words with the opcode of `i`, the row accepts only those whose must-be-zero slices are zero and that meet the
bound (30_encoding R95, R98, R100). -/
theorem decode_rejects_of_opcode {w : Word} (hop : fieldOp w = i.opcode)
    (h : ¬((∀ x ∈ i.reserved, bits w x.1 x.2 = 0) ∧ i.also.holds w = true)) : ∃ e, decode w = .error e := by
  refine decode_rejects fun j hj => h ?_
  rw [decode_of_opcode hop] at hj
  exact (exists_readAs_eq_ok i).1 ⟨j, hj⟩

end Sys2Proof.Machine
end

section
/-! The point functions of the two curves (43_weierstrass R203, R206 to R209; 44_edwards R233, R235, R236). -/

namespace Sys2Proof.Machine

open Sys2Proof.Claims

/-! The W prime is odd, more than 2, and fits in a register (43_weierstrass R200). -/

theorem w_prime_odd : Config.w.prime % 2 = 1 := by decide

theorem two_lt_w_prime : 2 < Config.w.prime := by decide

theorem w_prime_ne_zero : Config.w.prime ≠ 0 := by decide

theorem w_prime_le : Config.w.prime ≤ 2 ^ 512 := by
  have hlt : Config.w.prime < 2 ^ 256 := romValue_lt .wp
  omega

/-! The names the statements give the integer functions (41_modarith R131, R132). -/

theorem reduce_eq_residue (a : Int) (m : Nat) : reduce a m = residue a m := rfl

theorem invert_eq_fermat (a m : Nat) : invert a m = fermat a m := invert_eq a m

/-- Settles O39: the model's functions with `reduce` as the residue, `invert` as the Fermat power and the sentinel
compared by coordinates. -/
theorem curveFormulas : Obligations.CurveFormulas := by
  refine ⟨fun x y => ?_, fun x1 y1 x2 y2 => ?_, fun x1 y1 x2 y2 => ?_⟩
  · simp only [wDouble, reduce_eq_residue, invert_eq_fermat]
  · simp only [wSum, wChord, sentinel, Point.mk.injEq, reduce_eq_residue, invert_eq_fermat]
  · simp only [eSum, eFormula, sentinel, Point.mk.injEq, reduce_eq_residue, invert_eq_fermat]

/-- Settles O45: scalar 0 has no bit, scalar 1 adds the base to the sentinel, and the sentinel is kept by both
operations. -/
theorem scalarCornerCases : Obligations.ScalarCornerCases := by
  refine ⟨fun p => ⟨rfl, rfl⟩, fun p hx hy => ?_, fun p _ _ => ?_, fun k => ?_⟩
  · rw [wProduct_one, wSum_sentinel_left two_lt_w_prime (inField_eq_true.2 ⟨hx, hy⟩)]
  · rw [eProduct_one, eSum_sentinel_left]
  · exact ⟨wProduct_sentinel two_lt_w_prime k, eProduct_sentinel Config.e k⟩

/-- Settles O46: the rows of R209 in their order; the two pairs off the curve are evaluated. -/
theorem weierstrassDegeneratePairs : Obligations.WeierstrassDegeneratePairs := by
  have hp := two_lt_w_prime
  refine ⟨wDouble_sentinel hp, wSum_sentinel_right hp sentinel, wProduct_sentinel hp, fun q hx hy => ⟨?_, ?_⟩,
    fun q _ hy h0 => wSum_neg w_prime_odd hy h0 q.x, fun x _ => wDouble_zero hp x, fun x _ _ => ?_, ?_,
    fun x y1 y2 _ _ _ => wSum_vertical hp, ?_, ?_⟩
  · exact wSum_sentinel_left hp (inField_eq_true.2 ⟨hx, hy⟩)
  · exact wSum_sentinel_right hp q
  · exact (wSum_self Config.w ⟨x, 0⟩).trans (wDouble_zero hp x)
  · exact ((wSum_self Config.w ⟨5, 0⟩).trans (wDouble_zero hp 5)).trans (by decide)
  · decide +kernel
  · decide +kernel

/-- Settles O48: eight closed evaluations of the model. -/
theorem generatorMultiples : Obligations.GeneratorMultiples := by
  unfold Obligations.GeneratorMultiples
  decide +kernel

end Sys2Proof.Machine
end

section
/-! The commands of the W unit: E_RANGE, or one pair written with its flag (43_weierstrass R204 to R206). -/

namespace Sys2Proof.Machine

open Sys2Proof.Claims

/-- Settles O40: a sum of two pairs of the field lies in the field, and it is computed from the old state. -/
theorem wAddWritesSum : Obligations.WAddWritesSum := by
  refine ⟨fun rd ra rb s hrd hra hrb => ?_, fun w hop h => decode_rejects_of_opcode (i := .wAdd 0 0 0) hop ?_⟩
  · have hwf : (Instr.wAdd rd ra rb).wf = true := by simp [Instr.wf, Reg.isPair, hrd, hra, hrb]
    have hsum : ((s.readPair ra).inField Config.w.prime && (s.readPair rb).inField Config.w.prime) = true →
        (wSum Config.w (s.readPair ra) (s.readPair rb)).inField Config.w.prime = true := fun hin =>
      have ⟨hp, hq⟩ := Bool.and_eq_true_iff.1 hin
      wSum_inField w_prime_ne_zero hp hq
    have houtcomes := rangeOrPairWritten hwf (execWAdd_cases rd ra rb s) w_prime_le hsum
    simpa only [Bool.and_eq_false_iff, Bool.and_eq_true_iff, inField_eq_false, inField_eq_true, and_imp, or_assoc]
      using houtcomes
  · simp only [Instr.reserved, Instr.also, Also.holds, List.forall_mem_singleton, decide_eq_true_eq]
    omega

/-- Settles O41: a double lies in the field for every pair. -/
theorem wDblWritesDouble : Obligations.WDblWritesDouble := by
  refine ⟨fun rd ra s hrd hra => ?_, fun w hop h => decode_rejects_of_opcode (i := .wDbl 0 0) hop ?_⟩
  · have hwf : (Instr.wDbl rd ra).wf = true := by simp [Instr.wf, Reg.isPair, hrd, hra]
    have houtcomes := rangeOrPairWritten hwf (execWDbl_cases rd ra s) w_prime_le
      fun _ => wDouble_inField w_prime_ne_zero (s.readPair ra)
    simpa only [inField_eq_false, inField_eq_true, and_imp] using houtcomes
  · simp only [Instr.reserved, Instr.also, Also.holds, List.forall_mem_singleton, decide_eq_true_eq]
    omega

/-- Settles O42: the loop is the scan of the bits of the whole scalar, and its accumulator stays in the field. -/
theorem wMulIsDoubleAndAdd : Obligations.WMulIsDoubleAndAdd := by
  refine ⟨fun rd ra rb s hrd hra => ?_, fun w hop h => decode_rejects_of_opcode (i := .wMul 0 0 0) hop ?_⟩
  · have hwf : (Instr.wMul rd ra rb).wf = true := by simp [Instr.wf, Reg.isPair, hrd, hra]
    have houtcomes := rangeOrPairWritten hwf (execWMul_cases rd ra rb s) w_prime_le
      fun hin => wProduct_inField w_prime_ne_zero hin (s.unsignedB rb)
    rw [wProduct_eq_scanBits, State.unsignedB] at houtcomes
    simpa only [inField_eq_false, inField_eq_true, and_imp] using houtcomes
  · simp only [Instr.reserved, Instr.also, Also.holds, List.forall_mem_singleton, decide_eq_true_eq]
    omega

end Sys2Proof.Machine
end

section
/-! SUPPORT. The cases of the Edwards sum, and its product with a base that is its own negation (44_edwards R232, R233,
R235, R237). -/

namespace Sys2Proof.Machine

open Sys2Proof.Claims

variable {c : Curve} {a b : Point}

/-- The power of 1 is 1, whatever the exponent (41_modarith R132). -/
theorem invert_one {m : Nat} (hm : 1 < m) : invert 1 m = 1 := by rw [invert_eq, one_pow, Nat.mod_eq_of_lt hm]

/-! The formula (44_edwards R233): its field, the point (0, 1), and a zero denominator. -/

theorem eFormula_inField (hc : c.prime ≠ 0) (a b : Point) : (eFormula c a b).inField c.prime = true := by
  simp only [inField_eq_true, eFormula, reduce_lt _ hc, and_self]

/-- With (0, 1) both denominators are 1, so the formula returns a pair of the field as it is (44_edwards R232). -/
theorem eFormula_zero_one (hc : 1 < c.prime) (ha : a.inField c.prime = true) : eFormula c a ⟨0, 1⟩ = a := by
  obtain ⟨hx, hy⟩ := inField_eq_true.1 ha
  have hone : reduce 1 c.prime = 1 := (reduce_natCast 1 c.prime).trans (Nat.mod_eq_of_lt hc)
  simp [eFormula, hone, invert_one hc, reduce_natCast, Nat.mod_eq_of_lt hx, Nat.mod_eq_of_lt hy]

theorem eFormula_x_eq_zero (hc : 2 < c.prime) (a b : Point)
    (h : reduce (1 + (reduce (c.coeff * a.x * b.x * a.y * b.y) c.prime : Int)) c.prime = 0) :
    (eFormula c a b).x = 0 := by
  simp [eFormula, h, invert_of_mod_eq_zero hc (Nat.zero_mod _)]

theorem eFormula_y_eq_zero (hc : 2 < c.prime) (a b : Point)
    (h : reduce (1 - (reduce (c.coeff * a.x * b.x * a.y * b.y) c.prime : Int)) c.prime = 0) :
    (eFormula c a b).y = 0 := by
  simp [eFormula, h, invert_of_mod_eq_zero hc (Nat.zero_mod _)]

/-! The cases of the sum, first that holds (44_edwards R233). -/

theorem eSum_neg (c : Curve) (a : Point) : eSum c a ⟨reduce (-(a.x : Int)) c.prime, a.y⟩ = sentinel := if_pos ⟨rfl, rfl⟩

/-- A pair with `x = 0` is its own negation. -/
theorem eSum_self_of_x_eq_zero (c : Curve) (y : Nat) : eSum c ⟨0, y⟩ ⟨0, y⟩ = sentinel :=
  if_pos ⟨(reduce_zero _).symm, rfl⟩

/-- In the field the sentinel is a right identity: it is the negation of itself only. -/
theorem eSum_sentinel_right (hx : a.x < c.prime) : eSum c a sentinel = a := by
  by_cases hs : a = sentinel
  · rw [hs, eSum_sentinel_left]
  · have hneg : ¬(0 = reduce (-(a.x : Int)) c.prime ∧ 0 = a.y) := fun ⟨h, hy⟩ =>
      hs (mk_eq_sentinel.2 ⟨(reduce_neg_eq_zero_iff hx).1 h.symm, hy.symm⟩)
    exact (if_neg hneg).trans ((if_neg hs).trans (if_pos rfl))

/-- What is neither the negation nor the sentinel is left to the formula. -/
theorem eSum_eq_eFormula (hneg : ¬(b.x = reduce (-(a.x : Int)) c.prime ∧ b.y = a.y)) (ha : a ≠ sentinel)
    (hb : b ≠ sentinel) : eSum c a b = eFormula c a b :=
  (if_neg hneg).trans ((if_neg ha).trans (if_neg hb))

/-- A pair with `x` not 0 has a negation with `x` not 0, so its sum with (0, 1) is by the formula. -/
theorem eSum_zero_one (hc : 1 < c.prime) (ha : a.inField c.prime = true) (h0 : a.x ≠ 0) : eSum c a ⟨0, 1⟩ = a := by
  have hneg : ¬(0 = reduce (-(a.x : Int)) c.prime ∧ 1 = a.y) := fun ⟨h, _⟩ =>
    h0 ((reduce_neg_eq_zero_iff (inField_eq_true.1 ha).1).1 h.symm)
  have hs : a ≠ sentinel := fun h => h0 (mk_eq_sentinel.1 h).1
  rw [eSum_eq_eFormula hneg hs (by decide), eFormula_zero_one hc ha]

/-- A sum is one of its operands only through the sentinel, and is below the prime in every other case. -/
theorem eSum_inField (hc : c.prime ≠ 0) (ha : a.inField c.prime = true) (hb : b.inField c.prime = true) :
    (eSum c a b).inField c.prime = true := by
  unfold eSum
  split_ifs
  · exact sentinel_inField hc
  · exact hb
  · exact ha
  · exact eFormula_inField hc a b

theorem eProduct_inField (hc : c.prime ≠ 0) (ha : a.inField c.prime = true) (k : Nat) :
    (eProduct c a k).inField c.prime = true := by
  rw [eProduct_eq_scanBits]
  exact (scanBits_keeps (P := fun q => q.inField c.prime = true) (sentinel_inField hc) ha
    (fun _ _ => eSum_inField hc) (fun _ hq => eSum_inField hc hq hq) k _).1

/-- A base that is its own negation: after the first bit the running point is the sentinel, and the accumulator stays
what that bit made it (44_edwards R237). -/
theorem scanBits_of_self_neg (hx : a.x < c.prime) (hself : eSum c a a = sentinel) (k n : Nat) :
    scanBits (eSum c) (fun q => eSum c q q) a k (n + 1) = (if k % 2 = 1 then a else sentinel, sentinel) := by
  induction n with
  | zero =>
    simp only [scanBits, Nat.testBit_zero, decide_eq_true_eq, hself]
    rw [← sentinel, eSum_sentinel_left]
  | succ n ih =>
    have hacc : eSum c (if k % 2 = 1 then a else sentinel) sentinel = if k % 2 = 1 then a else sentinel := by
      split
      · exact eSum_sentinel_right hx
      · exact eSum_sentinel_left c sentinel
    rw [scanBits, ih, hacc, ite_self, eSum_sentinel_left]

theorem eProduct_of_self_neg (hx : a.x < c.prime) (hself : eSum c a a = sentinel) (k : Nat) :
    eProduct c a k = if k % 2 = 1 then a else sentinel := by
  by_cases hk : k = 0
  · rw [hk]
    rfl
  · rw [eProduct_eq_scanBits, bitLength, if_neg hk, scanBits_of_self_neg hx hself]

end Sys2Proof.Machine
end

section
/-! The commands of the E unit, and the degenerate pairs of its curve (44_edwards R234, R235, R237). -/

namespace Sys2Proof.Machine

open Sys2Proof.Claims

/-! The E prime is more than 2 and fits in a register (44_edwards R230). -/

theorem two_lt_e_prime : 2 < Config.e.prime := by decide

theorem e_prime_ne_zero : Config.e.prime ≠ 0 := by decide

theorem e_prime_le : Config.e.prime ≤ 2 ^ 512 := by
  have hlt : Config.e.prime < 2 ^ 256 := romValue_lt .ep
  omega

/-- Settles O47: the rows of R237 in their order; the pair off the curve is evaluated. -/
theorem edwardsDegeneratePairs : Obligations.EdwardsDegeneratePairs := by
  have hp := two_lt_e_prime
  have hself : eSum Config.e ⟨0, 1⟩ ⟨0, 1⟩ = sentinel := eSum_self_of_x_eq_zero Config.e 1
  refine ⟨eSum_sentinel_left _ _, fun q hx _ => ⟨eSum_sentinel_right hx, eSum_sentinel_left _ q⟩,
    fun q _ _ => eSum_neg _ q, fun q hx hy => ?_, eSum_self_of_x_eq_zero _,
    eProduct_of_self_neg (Nat.zero_lt_of_lt hp) hself, ?_,
    fun x1 y1 x2 y2 hneg ha hb => ?_⟩
  · exact eSum_zero_one (by omega) (inField_eq_true.2 ⟨hx, hy⟩)
  · decide +kernel
  · rw [eSum_eq_eFormula hneg ha hb]
    exact ⟨eFormula_x_eq_zero hp ⟨x1, y1⟩ ⟨x2, y2⟩, eFormula_y_eq_zero hp ⟨x1, y1⟩ ⟨x2, y2⟩⟩

/-- Settles O43: a sum of two pairs of the field lies in the field, and it is computed from the old state; no row has the
opcode 0x41. -/
theorem eAddWritesSum : Obligations.EAddWritesSum := by
  refine ⟨fun rd ra rb s hrd hra hrb => ?_, fun w hop h => decode_rejects_of_opcode (i := .eAdd 0 0 0) hop ?_,
    fun w hop => decode_of_unassigned fun i => ?_, fun _ _ => rfl⟩
  · have hwf : (Instr.eAdd rd ra rb).wf = true := by simp [Instr.wf, Reg.isPair, hrd, hra, hrb]
    have hsum : ((s.readPair ra).inField Config.e.prime && (s.readPair rb).inField Config.e.prime) = true →
        (eSum Config.e (s.readPair ra) (s.readPair rb)).inField Config.e.prime = true := fun hin =>
      have ⟨hp, hq⟩ := Bool.and_eq_true_iff.1 hin
      eSum_inField e_prime_ne_zero hp hq
    have houtcomes := rangeOrPairWritten hwf (execEAdd_cases rd ra rb s) e_prime_le hsum
    simpa only [Bool.and_eq_false_iff, Bool.and_eq_true_iff, inField_eq_false, inField_eq_true, and_imp, or_assoc]
      using houtcomes
  · simp only [Instr.reserved, Instr.also, Also.holds, List.forall_mem_singleton, decide_eq_true_eq]
    omega
  · rw [hop]
    cases i <;> simp [Instr.opcode]

/-- Settles O44: the loop is the scan of the bits of the whole scalar, and its accumulator stays in the field. -/
theorem eMulIsDoubleAndAdd : Obligations.EMulIsDoubleAndAdd := by
  refine ⟨fun rd ra rb s hrd hra => ?_, fun w hop h => decode_rejects_of_opcode (i := .eMul 0 0 0) hop ?_⟩
  · have hwf : (Instr.eMul rd ra rb).wf = true := by simp [Instr.wf, Reg.isPair, hrd, hra]
    have houtcomes := rangeOrPairWritten hwf (execEMul_cases rd ra rb s) e_prime_le
      fun hin => eProduct_inField e_prime_ne_zero hin (s.unsignedB rb)
    rw [eProduct_eq_scanBits, State.unsignedB] at houtcomes
    simpa only [inField_eq_false, inField_eq_true, and_imp] using houtcomes
  · simp only [Instr.reserved, Instr.also, Also.holds, List.forall_mem_singleton, decide_eq_true_eq]
    omega

end Sys2Proof.Machine
end

section
/-! SUPPORT. What a command answers, by the first of its checks that fails (60_exceptions R281, R284). -/

namespace Sys2Proof.Machine

open Sys2Proof.Claims

variable {s : State} {i : Instr} {rd : Reg}

/-- The completion step of the command `i` from `s`, by the table of R284: the error of the first check that fails, what
has been written when none does, and besides these the illegal pair term (log entry 11) and the block beyond MB (log
entry 10). -/
inductive CommandOutcome (s : State) (i : Instr) : Prop
  | illegal (ill : i.wf = false) (h : exec i s = fail .illegal s)
  | error (e : ErrorCode) (recorded : e ≠ .none) (check : errorOf i s = some e) (h : exec i s = fail e s)
  | completion (u : State) (check : errorOf i s = none) (hu : Writes s i u) (h : exec i s = finish u)
  | beyond (left : s.blockOffset < s.plen.toNat) (out : s.config.msgCap < s.blockOffset + blockBytes s.hv)
    (h : exec i s = .fault (.messageBufferBound s.blockOffset))

/-- A MAU command has one check, that of its modulus (41_modarith R134 to R139). -/
theorem outcome_of_modulus {rm : Reg} {least r : Nat} (hd : residueDest i = some rd)
    (check : errorOf i s = if s.unsignedB rm < least then some .modulus else none)
    (small : s.unsignedB rm < least → exec i s = fail .modulus s)
    (big : ¬ s.unsignedB rm < least → exec i s = finishResidue rd r s) : CommandOutcome s i := by
  by_cases hm : s.unsignedB rm < least
  · exact .error .modulus nofun (check.trans (if_pos hm)) (small hm)
  · exact .completion _ (check.trans (if_neg hm)) (.residue r hd) (big hm)

/-- A modulus of at least 1 is one that is not 0 (41_modarith R134, R136 to R139). -/
theorem outcome_of_modulus_one {rm : Reg} {r : Nat} (hd : residueDest i = some rd)
    (check : errorOf i s = if s.unsignedB rm < 1 then some .modulus else none)
    (zero : s.unsignedB rm = 0 → exec i s = fail .modulus s)
    (pos : s.unsignedB rm ≠ 0 → exec i s = finishResidue rd r s) : CommandOutcome s i :=
  outcome_of_modulus hd check (fun h => zero (Nat.lt_one_iff.1 h)) fun h => pos (mt Nat.lt_one_iff.2 h)

/-- The check of R284 on one operand pair. -/
theorem pair_out_iff (s : State) (ra : Reg) (p : Nat) :
    (∃ r ∈ [ra, ra + 1], p ≤ (s.readB r).toNat) ↔ (s.readPair ra).inField p = false := by
  simp [inField_eq_false, State.readPair, State.unsignedB]

/-- The check of R284 on two operand pairs. -/
theorem pairs_out_iff (s : State) (ra rb : Reg) (p : Nat) :
    (∃ r ∈ [ra, ra + 1, rb, rb + 1], p ≤ (s.readB r).toNat) ↔
      ((s.readPair ra).inField p && (s.readPair rb).inField p) = false := by
  rw [Bool.and_eq_false_iff, ← pair_out_iff, ← pair_out_iff]
  simp [or_assoc]

/-- An ECU command on legal pairs has one check, that of its coordinates (43_weierstrass R204 to R206, 44_edwards R234,
R235). -/
theorem outcome_of_range {inRange : Bool} {p : Point} (hd : pointDest i = some rd)
    (check : errorOf i s = if inRange = false then some .range else none)
    (hcases : (i.wf = false ∧ exec i s = fail .illegal s) ∨
      (i.wf = true ∧ inRange = false ∧ exec i s = fail .range s) ∨
      (i.wf = true ∧ inRange = true ∧ exec i s = finishPoint rd p s)) : CommandOutcome s i := by
  obtain ⟨ill, h⟩ | ⟨-, hout, h⟩ | ⟨-, hin, h⟩ := hcases
  · exact .illegal ill h
  · exact .error .range nofun (check.trans (if_pos hout)) h
  · exact .completion _ (check.trans (if_neg (ne_false_of_eq_true hin))) (.point p hd) h

theorem outcome_hPad (s : State) : CommandOutcome s .hPad := by
  obtain ⟨hs, h⟩ | ⟨hs, long, h⟩ | ⟨hs, fits, h⟩ := execHPad_cases s
  · exact .error .hstate nofun (if_pos hs) h
  · exact .error .msglen nofun ((if_neg (not_not.2 hs)).trans (if_pos long)) h
  · exact .completion _ ((if_neg (not_not.2 hs)).trans (if_neg (Bool.eq_false_iff.1 fits))) (.hPad hs fits) h

/-- The hash states in which H_COMPRESS is legal, as its check tests them (42_hash R173). -/
theorem compressible_iff :
    s.hs = .padded ∨ s.hs = .processing ↔ ¬ (s.hs ≠ .padded ∧ s.hs ≠ .processing) := by
  rw [not_and_or, not_not, not_not]

theorem outcome_hCompress (s : State) : CommandOutcome s .hCompress := by
  obtain ⟨hs, h⟩ | ⟨hs, done, h⟩ | ⟨-, left, out, h⟩ | ⟨hs, left, -, h⟩ := execHCompress_cases s
  · exact .error .hstate nofun (if_pos hs) h
  · exact .error .hstate nofun ((if_neg (compressible_iff.1 hs)).trans (if_pos done)) h
  · exact .beyond left out h
  · exact .completion _ ((if_neg (compressible_iff.1 hs)).trans (if_neg (Nat.not_le.2 left))) (.hCompress hs left) h

theorem outcome_hFinal (s : State) : CommandOutcome s .hFinal := by
  obtain ⟨hs, h⟩ | ⟨hs, whole, h⟩ := execHFinal_cases s
  · exact .error .hstate nofun (if_pos hs) h
  · exact .completion _ (if_neg (not_or.2 ⟨not_not.2 hs, not_not.2 whole⟩)) (.hFinal hs whole) h

theorem outcome_hDigest (v : Variant) (s : State) : CommandOutcome s (.hDigest v) := by
  obtain ⟨long, h⟩ | ⟨fits, h⟩ := execHDigest_cases v s
  · exact .error .msglen nofun (if_pos long) h
  · exact .completion _ (if_neg (Bool.eq_false_iff.1 fits)) (.hDigest v fits) h

/-- Every command has one of these outcomes from every state (60_exceptions R281, R284). -/
theorem exec_outcome (i : Instr) (s : State) : CommandOutcome s i := by
  cases i with
  | nop => exact .completion _ rfl .nop rfl
  | ldc rd c => exact .completion _ rfl (.ldc rd c) rfl
  | reduce => exact outcome_of_modulus_one rfl rfl execReduce_zero execReduce_pos
  | invert => exact outcome_of_modulus rfl rfl execInvert_small fun h => execInvert_big (Nat.le_of_not_lt h)
  | modexp => exact outcome_of_modulus_one rfl rfl execModexp_zero execModexp_pos
  | modadd => exact outcome_of_modulus_one rfl rfl execModadd_zero execModadd_pos
  | modsub => exact outcome_of_modulus_one rfl rfl execModsub_zero execModsub_pos
  | modmul => exact outcome_of_modulus_one rfl rfl execModmul_zero execModmul_pos
  | hInit v => exact .completion _ rfl (.hInit v) rfl
  | hPad => exact outcome_hPad s
  | hCompress => exact outcome_hCompress s
  | hFinal => exact outcome_hFinal s
  | hDigest v => exact outcome_hDigest v s
  | wAdd rd ra rb => exact outcome_of_range rfl (if_congr (pairs_out_iff s ra rb _) rfl rfl) (execWAdd_cases rd ra rb s)
  | wDbl rd ra => exact outcome_of_range rfl (if_congr (pair_out_iff s ra _) rfl rfl) (execWDbl_cases rd ra s)
  | wMul rd ra rb => exact outcome_of_range rfl (if_congr (pair_out_iff s ra _) rfl rfl) (execWMul_cases rd ra rb s)
  | eAdd rd ra rb => exact outcome_of_range rfl (if_congr (pairs_out_iff s ra rb _) rfl rfl) (execEAdd_cases rd ra rb s)
  | eMul rd ra rb => exact outcome_of_range rfl (if_congr (pair_out_iff s ra _) rfl rfl) (execEMul_cases rd ra rb s)

/-- In a state of the invariant the block to compress lies in MB (20_memory R79). -/
theorem State.Inv.block_not_beyond (hi : s.Inv) (left : s.blockOffset < s.plen.toNat) :
    ¬ s.config.msgCap < s.blockOffset + blockBytes s.hv :=
  Nat.not_lt.2 ((hi.block_le_plen left).trans hi.capacity)

/-- What a command writes before completion leaves ERR as it was (40_control R119). -/
theorem Writes.err_eq {u : State} (hu : Writes s i u) : u.err = s.err := by
  cases hu with
  | hDigest => rw [digestMessage_frame]
  | nop | ldc | residue | point | hInit | hPad | hCompress | hFinal => rfl

end Sys2Proof.Machine
end

section
/-! The one exception of the engine: no state of the invariant stops it, a command completes wholly or leaves the error
record, and which of the two is told by the table of the checks (60_exceptions R280, R281, R284). -/

namespace Sys2Proof.Machine

open Sys2Proof.Claims

variable {s : State}

/-- In a state of the invariant every command answers a next state (60_exceptions R280). -/
theorem State.Inv.exec_answers (hi : s.Inv) (i : Instr) : ∃ t, Machine.exec i s = .next t := by
  cases exec_outcome i s with
  | illegal _ h => exact ⟨_, h⟩
  | error _ _ _ h => exact ⟨_, h⟩
  | completion _ _ _ h => exact ⟨_, h⟩
  | beyond left out => exact absurd out (hi.block_not_beyond left)

/-- In a state of the invariant the engine's move answers a next state (40_control R119). -/
theorem State.Inv.engineMove_answers (hi : s.Inv) : ∃ t, Machine.engineMove s = .next t := by
  obtain ⟨-, h⟩ | ⟨-, -, h⟩ | ⟨-, i, -, h⟩ := engineMove_cases s
  · exact ⟨_, h⟩
  · exact ⟨_, h⟩
  · exact h ▸ hi.exec_answers i

/-- Settles O10: the engine's move answers by the invariant, a host access and the reset input from every state. -/
theorem stepNeverStops : Obligations.StepNeverStops := by
  intro s hi
  rw [State.Safe]
  obtain ⟨-, h⟩ | ⟨rest, -, h⟩ | ⟨a, rest, -, h⟩ | ⟨rest, -, h⟩ := step_cases s
  · rw [h]
    exact hi.engineMove_answers
  · rw [h]
    exact (hi.with_schedule rest).engineMove_answers
  · exact ⟨_, h⟩
  · exact ⟨_, h⟩

/-- Settles O12: an error recorded is never 0, and what completes has left ERR as acceptance found it. -/
theorem commandWholeOrErrorRecord : Obligations.CommandWholeOrErrorRecord := by
  intro i s t _ herr hdone hnext
  cases exec_outcome i s with
  | illegal _ h =>
    obtain rfl := fail_next.1 (h ▸ hnext)
    exact .inr ⟨nofun, rfl, hdone⟩
  | error e recorded _ h =>
    obtain rfl := fail_next.1 (h ▸ hnext)
    exact .inr ⟨recorded, rfl, hdone⟩
  | completion u _ hu h =>
    obtain rfl := finish_next.1 (h ▸ hnext)
    exact .inl ⟨rfl, rfl, hu.err_eq.trans herr⟩
  | beyond _ _ h => cases h.symm.trans hnext

/-- The completion step of a word that decodes to no command is E_ILLEGAL (30_encoding R95). -/
theorem runCommand_of_reject {e : Reject} (h : decode s.cmd = .error e) : runCommand s = fail .illegal s := by
  rw [runCommand, State.commandWord, h]

/-- Settles O13: a word that decodes is a legal command, and the invariant leaves it the table of R284. -/
theorem errorsInOrder : Obligations.ErrorsInOrder := by
  refine ⟨fun s e hd => ⟨s.raise .illegal, runCommand_of_reject hd, rfl⟩, fun i s hd hi => ?_⟩
  refine ⟨runCommand_of_decode hd, ?_⟩
  cases exec_outcome i s with
  | illegal ill => cases (encodeOfDecode s.cmd i hd).1.symm.trans ill
  | error e' _ check h =>
    rw [check]
    refine ⟨fun e he => ?_, nofun⟩
    cases he
    exact errorRecord_of_fail h
  | completion u check hu h =>
    rw [check]
    exact ⟨nofun, fun _ => ⟨u.complete, h, rfl, rfl, hu.err_eq⟩⟩
  | beyond left out => exact absurd out (hi.block_not_beyond left)

end Sys2Proof.Machine
end

section
/-! SUPPORT. What a host write does when it is lost, when it takes effect and when it is ignored (20_memory R65, R75,
70_reset R316). -/

namespace Sys2Proof.Machine

variable {s : State} {word : Nat} {strobes : BitVec 4}

/-- With some but not all strobes a write that needs all of them is dropped (20_memory R75). -/
theorem fullWrite_of_partial (t : State) (h : strobes ≠ 0xF) : s.fullWrite strobes t = s.hazard := if_neg h

/-- While BUSY a write to what the engine owns is dropped (70_reset R316). -/
theorem idleWrite_of_busy (t : State) (hb : s.busy = true) : s.idleWrite t = s.hazard := if_pos hb

/-- A write that is dropped with all strobes is dropped with any. -/
theorem fullWrite_hazard (s : State) (strobes : BitVec 4) : s.fullWrite strobes s.hazard = s.hazard := ite_self _

/-- A CMD write that is not accepted is dropped (10_state R28). -/
theorem writeCmd_of_refused {w : Word} (h : s.busy = true ∨ s.err ≠ .none) : s.writeCmd w = s.hazard := if_pos h

/-- While BUSY a write to CMD, MLEN, B or MB is lost (70_reset R316). -/
theorem busWrite_of_busy (data : Word) (hs : strobes ≠ 0) (hb : s.busy = true)
    (h : target s.config word = .cmd ∨ target s.config word = .mlen ∨ (∃ i j, target s.config word = .b i j) ∨
      ∃ q, target s.config word = .mb q) : s.busWrite word data strobes = s.hazard := by
  rw [State.busWrite, if_neg hs]
  obtain h | h | ⟨i, j, h⟩ | ⟨q, h⟩ := h <;> rw [h] <;> dsimp only
  · rw [writeCmd_of_refused (.inl hb), fullWrite_hazard]
  · rw [idleWrite_of_busy _ hb, fullWrite_hazard]
  · rw [idleWrite_of_busy _ hb, fullWrite_hazard]
  · exact idleWrite_of_busy _ hb

/-- With some but not all strobes a write to CMD, CTRL, MLEN or B is lost (20_memory R75). -/
theorem busWrite_of_partial (data : Word) (hs : strobes ≠ 0) (hF : strobes ≠ 0xF)
    (h : target s.config word = .cmd ∨ target s.config word = .ctrl ∨ target s.config word = .mlen ∨
      ∃ i j, target s.config word = .b i j) : s.busWrite word data strobes = s.hazard := by
  rw [State.busWrite, if_neg hs]
  obtain h | h | h | ⟨i, j, h⟩ := h <;> rw [h] <;> exact fullWrite_of_partial _ hF

/-- While ERR is not 0 a write to CMD is lost (60_exceptions R282). -/
theorem busWrite_cmd_of_err (data : Word) (hs : strobes ≠ 0) (he : s.err ≠ .none) (h : target s.config word = .cmd) :
    s.busWrite word data strobes = s.hazard := by
  rw [State.busWrite, if_neg hs, h]
  dsimp only
  rw [writeCmd_of_refused (.inr he), fullWrite_hazard]

/-- A write to a read-only or reserved word is ignored (20_memory R65, 70_reset R316). -/
theorem busWrite_of_readOnly (data : Word) (hs : strobes ≠ 0)
    (h : target s.config word = .id ∨ target s.config word = .status ∨ target s.config word = .plen ∨
      target s.config word = .blk ∨ target s.config word = .cap ∨ (∃ k, target s.config word = .dg k) ∨
      (∃ k, target s.config word = .h k) ∨ target s.config word = .reserved) : s.busWrite word data strobes = s := by
  rw [State.busWrite, if_neg hs]
  obtain h | h | h | h | h | ⟨k, h⟩ | ⟨k, h⟩ | h := h <;> rw [h]

end Sys2Proof.Machine
end

section
/-! SUPPORT. What a step does to the schedule: it takes one move off, and a move leaves the rest alone (10_state R20,
log entry 4). -/

namespace Sys2Proof.Machine

open Sys2Proof.Claims

variable {s t : State}

theorem fullWrite_schedule (h : t.schedule = s.schedule) (strobes : BitVec 4) :
    (s.fullWrite strobes t).schedule = s.schedule := by
  unfold State.fullWrite
  split
  · exact h
  · rfl

theorem idleWrite_schedule (h : t.schedule = s.schedule) : (s.idleWrite t).schedule = s.schedule := by
  unfold State.idleWrite
  split
  · rfl
  · exact h

theorem writeCmd_schedule (s : State) (w : Word) : (s.writeCmd w).schedule = s.schedule := by
  obtain ⟨-, hw⟩ | ⟨-, -, hw⟩ := writeCmd_cases s w <;> rw [hw] <;> rfl

theorem writeCtrl_schedule (s : State) (w : Word) : (s.writeCtrl w).schedule = s.schedule := by
  cases hw : w.getLsbD 0
  · rw [writeCtrl_of_no_srst hw]
  · rw [writeCtrl_of_srst hw]
    rfl

theorem busWrite_schedule (s : State) (word : Nat) (data : Word) (strobes : BitVec 4) :
    (s.busWrite word data strobes).schedule = s.schedule := by
  unfold State.busWrite
  split
  · rfl
  cases target s.config word with
  | cmd => exact fullWrite_schedule (writeCmd_schedule s data) strobes
  | ctrl => exact fullWrite_schedule (writeCtrl_schedule s data) strobes
  | mlen | b =>
    refine fullWrite_schedule (idleWrite_schedule ?_) strobes
    rfl
  | mb => exact idleWrite_schedule rfl
  | id | status | plen | blk | cap | dg | h | reserved => rfl

theorem busAccess_schedule (s : State) (a : BusAccess) : (s.busAccess a).schedule = s.schedule := by
  cases a with
  | read word => obtain ⟨-, -, h⟩ | ⟨-, h⟩ := busRead_cases s word <;> rw [State.busAccess, h]
  | write word data strobes => exact busWrite_schedule s word data strobes

/-- However a command ends, it ends: BUSY is 0 (40_control R119, 60_exceptions R281). -/
theorem exec_busy {i : Instr} (h : exec i s = .next t) : t.busy = false := by
  obtain ⟨e, rfl⟩ | ⟨u, -, rfl⟩ := exec_next h <;> rfl

/-- The engine's move leaves it idle and the moves to come as they are (40_control R119). -/
theorem engineMove_next (h : engineMove s = .next t) : t.busy = false ∧ t.schedule = s.schedule := by
  obtain ⟨hb, hm⟩ | ⟨-, -, hm⟩ | ⟨-, i, -, hm⟩ := engineMove_cases s
  · cases hm.symm.trans h
    exact ⟨hb, rfl⟩
  · obtain rfl := fail_next.1 (hm ▸ h)
    exact ⟨rfl, rfl⟩
  · have hexec : exec i s = .next t := hm ▸ h
    obtain ⟨-, -, -, -, -, -, hschedule, -⟩ := commandsLeaveHostFields i s t hexec
    exact ⟨exec_busy hexec, hschedule⟩

/-- A step takes its move off the schedule and nothing else; from an empty schedule there is none to take. -/
theorem step_schedule (h : step s = .next t) : t.schedule = s.schedule.tail := by
  obtain ⟨hm, hs⟩ | ⟨rest, hm, hs⟩ | ⟨a, rest, hm, hs⟩ | ⟨rest, hm, hs⟩ := step_cases s <;> rw [hm]
  · exact (engineMove_next (hs ▸ h)).2.trans hm
  · exact (engineMove_next (hs ▸ h)).2
  · cases hs.symm.trans h
    exact busAccess_schedule _ a
  · cases hs.symm.trans h
    rfl

/-- With nothing scheduled the engine moves (log entry 4). -/
theorem step_of_schedule_nil (hm : s.schedule = []) : step s = engineMove s := by
  rw [step, hm]

/-- Nothing executes until the host writes CMD (70_reset R312). -/
theorem engineMove_of_idle (hb : s.busy = false) : engineMove s = .next s := if_neg (Bool.eq_false_iff.1 hb)

end Sys2Proof.Machine
end

section
/-! SUPPORT. Parts of the state that a command does not read: a change `f` of them before the command comes to a change of
the answer after it (70_reset R318). `g` and `g'` are what the two answers are compared through: to say that the answer
changes by `f` alone, `g` is the identity and `g'` is `f`; to say that the answers agree up to a field, both forget it. -/

namespace Sys2Proof.Machine

open Sys2Proof.Claims

variable {f g g' : State → State} {s : State} {i : Instr}

/-- `f` changes nothing that the end of a command reads (40_control R119, 60_exceptions R281). -/
structure UnreadAtEnd (f g g' : State → State) : Prop where
  complete : ∀ s, g (f s).complete = g' s.complete
  raise : ∀ s e, g ((f s).raise e) = g' (s.raise e)

/-- `f` changes nothing that a MAU, ECU or control command reads: it leaves the big registers and does not meet what
these commands write. -/
structure UnreadByRegisters (f g g' : State → State) : Prop extends UnreadAtEnd f g g' where
  readB : ∀ s i, (f s).readB i = s.readB i
  writeB : ∀ s i v, (f s).writeB i v = f (s.writeB i v)
  withZ : ∀ s r, (f s).withZ r = f (s.withZ r)
  withInf : ∀ s x y, (f s).withInf x y = f (s.withInf x y)

/-- `f` changes nothing that a hash command reads: it leaves the hash context and does not meet the four updates these
commands are made of (42_hash R170 to R176). -/
structure UnreadByHash (f g g' : State → State) : Prop extends UnreadAtEnd f g g' where
  config : ∀ s, (f s).config = s.config
  hs : ∀ s, (f s).hs = s.hs
  hv : ∀ s, (f s).hv = s.hv
  mlen : ∀ s, (f s).mlen = s.mlen
  plen : ∀ s, (f s).plen = s.plen
  blk : ∀ s, (f s).blk = s.blk
  initHash : ∀ s v, (f s).initHash v = f (s.initHash v)
  padMessage : ∀ s, (f s).padMessage = f s.padMessage
  compressBlock : ∀ s, (f s).compressBlock = f s.compressBlock
  finalizeHash : ∀ s, (f s).finalizeHash = f s.finalizeHash

@[simp] theorem mapNext_id (a : Answer) : mapNext id a = a := by cases a <;> rfl

/-- Two answers chosen by the same check agree if they agree in both branches. -/
theorem mapNext_ite {c : Prop} [Decidable c] {a a' b b' : Answer} (hpos : mapNext g a = mapNext g' a')
    (hneg : mapNext g b = mapNext g' b') : mapNext g (if c then a else b) = mapNext g' (if c then a' else b') := by
  split
  · exact hpos
  · exact hneg

theorem UnreadAtEnd.finish (hf : UnreadAtEnd f g g') (s : State) :
    mapNext g (finish (f s)) = mapNext g' (finish s) := congrArg _ (hf.complete s)

theorem UnreadAtEnd.fail (hf : UnreadAtEnd f g g') (e : ErrorCode) (s : State) :
    mapNext g (fail e (f s)) = mapNext g' (fail e s) := congrArg _ (hf.raise s e)

section
variable (hf : UnreadByRegisters f g g')
include hf

theorem UnreadByRegisters.unsignedB (s : State) (r : Reg) : (f s).unsignedB r = s.unsignedB r :=
  congrArg BitVec.toNat (hf.readB s r)

theorem UnreadByRegisters.signedB (s : State) (r : Reg) : (f s).signedB r = s.signedB r :=
  congrArg BitVec.toInt (hf.readB s r)

theorem UnreadByRegisters.readPair (s : State) (r : Reg) : (f s).readPair r = s.readPair r := by
  simp only [State.readPair, hf.unsignedB]

theorem UnreadByRegisters.finishResidue (rd : Reg) (r : Nat) (s : State) :
    mapNext g (finishResidue rd r (f s)) = mapNext g' (finishResidue rd r s) := by
  rw [Machine.finishResidue, hf.writeB, hf.withZ]
  exact hf.finish _

theorem UnreadByRegisters.finishPoint (rd : Reg) (p : Point) (s : State) :
    mapNext g (finishPoint rd p (f s)) = mapNext g' (finishPoint rd p s) := by
  rw [Machine.finishPoint, State.writePair, hf.writeB, hf.writeB, hf.withInf]
  exact hf.finish _

/-- The checks and the result of a MAU, ECU or control command are functions of the big registers. -/
theorem UnreadByRegisters.exec (hi : isHash i = false) (s : State) :
    mapNext g (exec i (f s)) = mapNext g' (exec i s) := by
  cases i with
  | nop => exact hf.finish s
  | ldc rd c =>
    rw [Machine.exec, execLdc, hf.writeB]
    exact hf.finish _
  | reduce | invert | modexp | modadd | modsub | modmul =>
    simp only [Machine.exec, execReduce, execInvert, execModexp, execModadd, execModsub, execModmul, hf.unsignedB,
      hf.signedB]
    exact mapNext_ite (hf.fail _ s) (hf.finishResidue _ _ s)
  | wAdd | wDbl | wMul | eAdd | eMul =>
    simp only [Machine.exec, execWAdd, execWDbl, execWMul, execEAdd, execEMul, hf.readPair, hf.unsignedB]
    exact mapNext_ite (hf.fail _ s) (mapNext_ite (hf.fail _ s) (hf.finishPoint _ _ s))
  | hInit | hPad | hCompress | hFinal | hDigest => cases hi

end

section
variable (hf : UnreadByHash f g g')
include hf

theorem UnreadByHash.blockOffset (s : State) : (f s).blockOffset = s.blockOffset := by
  simp only [State.blockOffset, hf.blk, hf.hv]

theorem UnreadByHash.compressBlocks (n : Nat) (s : State) : (f s).compressBlocks n = f (s.compressBlocks n) := by
  induction n generalizing s with
  | zero => rfl
  | succ n ih => rw [State.compressBlocks, hf.compressBlock, ih, State.compressBlocks]

theorem UnreadByHash.digestMessage (v : Variant) (s : State) : (f s).digestMessage v = f (s.digestMessage v) := by
  simp only [State.digestMessage, hf.initHash, hf.padMessage, hf.plen, hf.compressBlocks, hf.finalizeHash]

/-- The checks and the result of a hash command are functions of the hash context, MLEN, MB and the capacity. -/
theorem UnreadByHash.exec (hi : isHash i = true) (s : State) :
    mapNext g (exec i (f s)) = mapNext g' (exec i s) := by
  cases i with
  | hInit v =>
    rw [Machine.exec, execHInit, hf.initHash]
    exact hf.finish _
  | hPad =>
    simp only [Machine.exec, execHPad, hf.hs, hf.config, hf.hv, hf.mlen, hf.padMessage]
    exact mapNext_ite (hf.fail _ s) (mapNext_ite (hf.fail _ s) (hf.finish _))
  | hCompress =>
    simp only [Machine.exec, execHCompress, hf.hs, hf.plen, hf.blockOffset, hf.config, hf.hv, hf.compressBlock]
    exact mapNext_ite (hf.fail _ s) (mapNext_ite (hf.fail _ s) (mapNext_ite rfl (hf.finish _)))
  | hFinal =>
    simp only [Machine.exec, execHFinal, hf.hs, hf.blockOffset, hf.plen, hf.finalizeHash]
    exact mapNext_ite (hf.fail _ s) (hf.finish _)
  | hDigest v =>
    simp only [Machine.exec, execHDigest, hf.config, hf.mlen, hf.digestMessage]
    exact mapNext_ite (hf.fail _ s) (hf.finish _)
  | nop | ldc | reduce | invert | modexp | modadd | modsub | modmul | wAdd | wDbl | wMul | eAdd | eMul => cases hi

end

/-- What neither group reads no command reads. -/
theorem exec_of_unread (hr : UnreadByRegisters f g g') (hh : UnreadByHash f g g') (i : Instr) (s : State) :
    mapNext g (exec i (f s)) = mapNext g' (exec i s) := by
  cases hi : isHash i
  · exact hr.exec hi s
  · exact hh.exec hi s

/-! ### The parts of R318 -/

theorem unreadByRegisters_hash (u : State) : UnreadByRegisters (withHashOf · u) id (withHashOf · u) :=
  ⟨⟨fun _ => rfl, fun _ _ => rfl⟩, fun _ _ => rfl, fun _ _ _ => rfl, fun _ _ => rfl, fun _ _ _ => rfl⟩

theorem unreadByHash_registers (u : State) : UnreadByHash (withRegistersOf · u) id (withRegistersOf · u) :=
  ⟨⟨fun _ => rfl, fun _ _ => rfl⟩, fun _ => rfl, fun _ => rfl, fun _ => rfl, fun _ => rfl, fun _ => rfl, fun _ => rfl,
    fun _ _ => rfl, fun _ => rfl, fun _ => rfl, fun _ => rfl⟩

theorem unreadByRegisters_hostBits (u : State) : UnreadByRegisters (withHostBitsOf · u) id (withHostBitsOf · u) :=
  ⟨⟨fun _ => rfl, fun _ _ => rfl⟩, fun _ _ => rfl, fun _ _ _ => rfl, fun _ _ => rfl, fun _ _ _ => rfl⟩

theorem unreadByHash_hostBits (u : State) : UnreadByHash (withHostBitsOf · u) id (withHostBitsOf · u) :=
  ⟨⟨fun _ => rfl, fun _ _ => rfl⟩, fun _ => rfl, fun _ => rfl, fun _ => rfl, fun _ => rfl, fun _ => rfl, fun _ => rfl,
    fun _ _ => rfl, fun _ => rfl, fun _ => rfl, fun _ => rfl⟩

/-- `s` with DONE set to `d`. -/
def withDone (d : Bool) (s : State) : State := { s with done := d }

theorem unreadByRegisters_done (d : Bool) : UnreadByRegisters (withDone d) (withDone false) (withDone false) :=
  ⟨⟨fun _ => rfl, fun _ _ => rfl⟩, fun _ _ => rfl, fun _ _ _ => rfl, fun _ _ => rfl, fun _ _ _ => rfl⟩

theorem unreadByHash_done (d : Bool) : UnreadByHash (withDone d) (withDone false) (withDone false) :=
  ⟨⟨fun _ => rfl, fun _ _ => rfl⟩, fun _ => rfl, fun _ => rfl, fun _ => rfl, fun _ => rfl, fun _ => rfl, fun _ => rfl,
    fun _ _ => rfl, fun _ => rfl, fun _ => rfl, fun _ => rfl⟩

end Sys2Proof.Machine
end

section
/-! Reset, the idle engine, the host's lost writes, and what no command depends on (70_reset R310 to R321). -/

namespace Sys2Proof.Machine

open Sys2Proof.Claims

/-- Settles O11, by induction on the schedule: a step of the invariant answers a state of the invariant with one move less,
and when none is left the step is the engine's own, which leaves it idle. -/
theorem engineReturnsToIdle : Obligations.EngineReturnsToIdle := by
  intro s hi
  induction hm : s.schedule generalizing s with
  | nil =>
    obtain ⟨t, ht⟩ := stepNeverStops s hi
    obtain ⟨hidle, hschedule⟩ := engineMove_next ((step_of_schedule_nil hm).symm.trans ht)
    exact ⟨t, run_succ_of_step 0 ht, hschedule.trans hm, hidle⟩
  | cons m rest ih =>
    obtain ⟨t, ht⟩ := stepNeverStops s hi
    have hrest : t.schedule = rest := by rw [step_schedule ht, hm, List.tail_cons]
    obtain ⟨u, hrun, hu⟩ := ih t (stepKeepsInvariant s t hi ht) hrest
    exact ⟨u, (run_succ_of_step _ ht).trans hrun, hu⟩

/-- Settles O16: each clause names a part of the state that its commands do not read. -/
theorem noHiddenDependence : Obligations.NoHiddenDependence := by
  refine ⟨fun i s u hi => ?_, fun i s u hi => ?_, fun i s u => ?_, fun i s d => ?_⟩
  · rw [← (unreadByRegisters_hash u).exec hi s, mapNext_id]
  · rw [← (unreadByHash_registers u).exec hi s, mapNext_id]
  · rw [← exec_of_unread (unreadByRegisters_hostBits u) (unreadByHash_hostBits u) i s, mapNext_id]
  · exact exec_of_unread (unreadByRegisters_done d) (unreadByHash_done d) i s

/-- Settles O54: the step is the scheduled write, and the state it starts from has the parameter, BUSY and ERR of `s`. -/
theorem lostWritesSetHaz : Obligations.LostWritesSetHaz := by
  intro s word data strobes rest ht hs g dropped
  have hstep := step_of_hostTurn ht
  refine ⟨fun hb hg => ?_, fun hF hg => ?_, fun he hg => ?_, fun hg => ?_⟩
  · exact hstep.trans (congrArg _ (busWrite_of_busy data hs hb hg))
  · exact hstep.trans (congrArg _ (busWrite_of_partial data hs hF hg))
  · exact hstep.trans (congrArg _ (busWrite_cmd_of_err data hs he hg))
  · exact hstep.trans (congrArg _ (busWrite_of_readOnly data hs hg))

/-- Settles O7: with nothing scheduled the step is the engine's, and an idle engine does nothing. -/
theorem idleEngineStays : Obligations.IdleEngineStays := by
  have idle (s : State) (hb : s.busy = false) (hm : s.schedule = []) : step s = .next s :=
    (step_of_schedule_nil hm).trans (engineMove_of_idle hb)
  exact ⟨idle, idle State.reset rfl rfl⟩

/-- After a reset STATUS reads 0: idle, no error, no hash context (10_state R29, R41). -/
theorem takeReset_statusWord (s : State) : s.takeReset.statusWord = 0 := by
  simp [State.statusWord, ErrorCode.code, HashState.code, Variant.number]

/-- After a reset CTRL reads 0: the interrupts are disabled (10_state R30, R41). -/
theorem takeReset_ctrlWord (s : State) : s.takeReset.ctrlWord = 0 := by
  simp [State.ctrlWord]

/-- Settles O53: both moves are the one reset, which writes the control state out. -/
theorem resetClearsControlState : Obligations.ResetClearsControlState := by
  intro s w rest hw
  have hard : step { s with schedule := .hardReset :: rest } = .next (State.takeReset { s with schedule := rest }) := rfl
  have soft := (controlWriteActs { s with schedule := .bus (.write 3 w 0xF) :: rest } w 0xF rest rfl).1 rfl hw
  obtain ⟨hid, -⟩ := controlRegisterReadsAndInterrupt.1 (State.takeReset { s with schedule := rest })
  exact ⟨hard.trans soft.symm, _, hard,
    rfl, takeReset_statusWord _, takeReset_ctrlWord _, rfl, rfl, rfl, rfl, rfl, rfl, rfl, rfl, rfl, rfl, rfl, rfl, hid,
    rfl, rfl⟩

end Sys2Proof.Machine
end
